-- ==== Sys2Proof/Word.lean ====
section
/-! DEFINITION. The words of the block: a byte (R13), a 16-bit operand field (R61) and the 56-bit command word (R60). -/

namespace Sys2Proof

/-- A byte: 8 bits, an unsigned value 0 to 255 (`00_scope.md` R13). -/
abbrev Byte := BitVec 8

/-- A 16-bit operand field `a`, `b` or `c` of the command word (`30_encoding.md` R61). -/
abbrev Field := BitVec 16

/-- The 56-bit command word `cw` (`30_encoding.md` R60). -/
abbrev CmdWord := BitVec 56

end Sys2Proof
end

