-- ==== Sys2Proof/Config.lean ====
section
/-! DEFINITION. What an implementation fixes: the parameters of an instance (`00_scope.md` R6 to R12), the check that
they are legal (an ill-formed instance is not built, `93_implementation_defined.md` U7 to U9), and the two free values,
the contents of the memories at reset (U1, U12). -/

namespace Sys2Proof

/-- `STRATEGY` (R10). -/
inductive Strategy where
  /-- `STAGED`: the whole frame is built in `EF` and handed over in one send. -/
  | staged
  /-- `STREAMING`: one send per logical chunk, no `EF`. -/
  | streaming
deriving DecidableEq, Repr

/-- The bit-order argument of begin-transaction (R11). The block never reads it. -/
inductive BitOrder where
  | msbFirst
  | lsbFirst
deriving DecidableEq, Repr

/-- `BUSCFG`, the triple handed unchanged to every begin-transaction (R11, R176). The block interprets none of the
three. DESIGN CHOICE on the types of the three (log 13). -/
structure BusCfg where
  clockRate : Nat
  bitOrder : BitOrder
  clockPolarityMode : Nat
deriving DecidableEq, Repr

/-- The parameters of R6, and the platform's `REFRESH_PERIOD`, which no rule reads (R194). -/
structure Params where
  /-- `W`, the physical width in pixels (R7). -/
  width : Nat
  /-- `H`, the physical height in lines (R8). -/
  height : Nat
  /-- `CMD_WRITE`, the write-command flag of the frame header (R9). -/
  cmdWrite : Byte
  /-- `POL_MASK`, the byte encoding of the polarity bit when set (R9). -/
  polMask : Byte
  /-- `STRATEGY` (R10). -/
  strategy : Strategy
  /-- `BUSCFG` (R11). -/
  busCfg : BusCfg
  /-- `ALLOC_OK` (R12). -/
  allocOk : Bool
  /-- `REFRESH_PERIOD`, a parameter of the platform that no rule of the spec reads (R194, U16). -/
  refreshPeriod : Nat
deriving DecidableEq, Repr

/-- Exactly one bit of the byte is set (the legal values of `POL_MASK`, R6). -/
def oneBitSet (b : Byte) : Bool :=
  [0x01#8, 0x02#8, 0x04#8, 0x08#8, 0x10#8, 0x20#8, 0x40#8, 0x80#8].contains b

/-- Every parameter is in its legal set: R7 (`W`), R8 (`H`), R9 (`CMD_WRITE`, `POL_MASK`). -/
def Params.legal (p : Params) : Bool :=
  p.width % 8 == 0 && decide (8 ≤ p.width) && decide (p.width ≤ 32760) &&
  decide (1 ≤ p.height) && decide (p.height ≤ 255) &&
  p.cmdWrite &&& p.polMask == 0#8 && oneBitSet p.polMask

/-- An instance: parameters together with the fact that they are legal, so that an ill-formed instance cannot be built
(`93_implementation_defined.md` U7, U8, U9: refuse). -/
structure Instance extends Params where
  isLegal : toParams.legal = true
deriving DecidableEq, Repr

/-- Building an instance: refused (`none`) when a parameter is outside its legal set (U7, U8, U9). -/
def Instance.build? (p : Params) : Option Instance :=
  if h : p.legal = true then some { toParams := p, isLegal := h } else none

/-- The parameters of `State.reset`. DESIGN CHOICE: 16 × 3 and `STAGED`, the instance most vectors of
`95_test_vectors.md` use, and the bus triple (log 1). PRESUMED: `CMD_WRITE = 0x80` and `POL_MASK = 0x40`, the spec's G1,
from general knowledge (log 5). `ALLOC_OK = true` is the default of R6. -/
def Params.atReset : Params where
  width := 16
  height := 3
  cmdWrite := 0x80#8
  polMask := 0x40#8
  strategy := .staged
  busCfg := { clockRate := 2000000, bitOrder := .msbFirst, clockPolarityMode := 0 }
  allocOk := true
  refreshPeriod := 0

/-- The instance of `State.reset` (log 1). -/
def Instance.atReset : Instance := { toParams := Params.atReset, isLegal := by decide }

/-- FREE VALUE (U1, log 3): the byte a given power-up leaves at an address of `PB`. Nothing constrains it; it is the same on
every read until the byte is written (R34). Arguments: the draw (`State.powerUp`) and the address. -/
opaque Config.pbAtReset : Nat → Nat → Byte

/-- FREE VALUE (U12, log 4): the byte a given power-up leaves at a position of `EF`. Never observable (R29). -/
opaque Config.efAtReset : Nat → Nat → Byte

end Sys2Proof
end

