-- ==== Sys2Proof/Syntax.lean ====
section
/-! DEFINITION. The seven commands of `spec/opcode_table.json` (`30_encoding.md` R63), one constructor each, with their
operands as the spec reads them (R64 to R66). The pseudo-instructions `PIXON` and `PIXOFF` are spellings of `SETPIX`
(R81) and have no constructor. -/

namespace Sys2Proof

/-- A rotation, "an enumerated value in {0,1,2,3}" (`10_state.md` R22). -/
inductive Rot where
  | r0
  | r1
  | r2
  | r3
deriving DecidableEq, Repr

/-- A command. Coordinates are signed integers (R64), the colour is unsigned (R65). -/
inductive Instr where
  /-- `INIT`, format N (R146). -/
  | init
  /-- `SETROT r`, format R (R147). -/
  | setrot (r : Rot)
  /-- `SETPIX x, y, colour`, format P (R95). -/
  | setpix (x y : Int) (colour : Nat)
  /-- `GETPIX x, y`, format Q (R96). -/
  | getpix (x y : Int)
  /-- `CLRBUF`, format N (R97). -/
  | clrbuf
  /-- `CLRREF`, format N (R122). -/
  | clrref
  /-- `REFRESH`, format N (R121). -/
  | refresh
deriving DecidableEq, Repr

/-- `PIXON x, y`, the pseudo-instruction for `SETPIX x, y, 1` (R81). -/
def Instr.pixon (x y : Int) : Instr := .setpix x y 1

/-- `PIXOFF x, y`, the pseudo-instruction for `SETPIX x, y, 0` (R81). -/
def Instr.pixoff (x y : Int) : Instr := .setpix x y 0

end Sys2Proof
end

