-- ==== Sys2Proof/Machine/State.lean ====
section
/-! DEFINITION. The state of the block as plain data (`10_state.md` R20 to R29), with the model's own fields for what is
outside it (the host's and the transport's coming acts) and for what it has put out (events and responses); the reasons a
step stops; the state after reset (R34, R185). -/

namespace Sys2Proof.Machine

/-- Why a command was rejected: the closed list of R161. The reason is on no port; it exists so that a model can name it. -/
inductive Reject where
  /-- Code 1: the word matches no row of the opcode map. -/
  | illegal
  /-- Code 2: a command other than `INIT` while `READY = 0`. -/
  | notReady
  /-- Code 3: `INIT` while `READY = 1`. -/
  | alreadyInit
  /-- Code 4: `INIT` while `READY = 0` and `ALLOC_OK = false`. -/
  | allocFail
deriving DecidableEq, Repr

/-- The response `(ok, val)` of one accepted command (R67), and the model-only reason of a rejection (R161). -/
structure Response where
  ok : Bool
  val : Bool
  why : Option Reject
deriving DecidableEq, Repr

/-- A transport event, the block's output toward the transport (R16). -/
inductive TxEvent where
  | txnBegin (cfg : BusCfg)
  | csHigh
  | send (bytes : List Byte)
  | csLow
  | txnEnd
deriving DecidableEq, Repr

/-- One act of the host at the block's inputs (R182, R185, R201). -/
inductive HostAct where
  /-- The host presents a command word and holds it until it is accepted. -/
  | word (cw : CmdWord)
  /-- A moment at which the port could accept a word and the host presents none. -/
  | pause
  /-- The host applies `rst` although the run has begun (R187). -/
  | rst
deriving DecidableEq, Repr

/-- What the transport drives at one moment at which a byte is on offer: `tx_ready` (R181), and the byte of the receive
half, which the block discards (R180). -/
structure TxMoment where
  ready : Bool
  rx : Byte
deriving DecidableEq, Repr

/-- A byte memory: (address, byte) pairs at strictly rising addresses. An address that is not listed holds no written value;
`Machine/Ops.lean` says what reading it gives. -/
abbrev Memory := List Host.Cell

/-- The state. -/
structure State where
  /-- The parameters of the instance, constant for its life (R6). Not state by R32; carried here so that every statement holds
  for every instance (log 2). -/
  cfg : Instance
  /-- `POL`, the polarity bit, 1 = set (R21). -/
  pol : Bool
  /-- `ROT`, the rotation (R22). -/
  rot : Rot
  /-- `READY`, 1 after a successful `INIT` (R23). -/
  ready : Bool
  /-- `BUSY`, 1 while a refresh is in progress (R24). -/
  busy : Bool
  /-- `SCS`, the chip-select level (R25). -/
  scs : Bool
  /-- `TXN`, 1 between begin-transaction and end-transaction (R26). -/
  txn : Bool
  /-- `POS`, the position of the next frame byte (R27). -/
  pos : Nat
  /-- `PB`, the pixel buffer (R28). -/
  pb : Memory
  /-- `EF`, the scratch copy of the frame, `STAGED` only (R29). -/
  ef : Memory
  /-- MODEL'S OWN: which draw of reset contents the memories hold (log 3). -/
  powerUp : Nat
  /-- MODEL'S OWN: the host's coming acts, in order (log 6). -/
  hostIn : List HostAct
  /-- MODEL'S OWN: what the transport drives at the coming moments of offer (log 8). -/
  txIn : List TxMoment
  /-- MODEL'S OWN: the level of `tx_ready` once `txIn` is used up (log 8). -/
  txRest : Bool
  /-- MODEL'S OWN: the bytes taken since the previous byte flagged `last`, or since the start (R124; log 9). -/
  chunk : List Byte
  /-- MODEL'S OWN: the transport events emitted so far (R16; log 9). -/
  events : List TxEvent
  /-- MODEL'S OWN: the responses produced so far, in order (R67; log 9). -/
  rsps : List Response
deriving DecidableEq, Repr

/-- Why the machine stops. Both are safe: the model stops, and no run from reset reaches either (log 11). -/
inductive Fault where
  /-- Raised by `SETPIX` and `GETPIX` for an access to `PB` outside 0 to `NBYTES - 1`, an address that does not exist (R40,
  R51). Safe; R47 says it cannot happen. -/
  | pbAddress (a : Nat)
  /-- Raised by the sequencer for `BUSY = 1` with `POS > FRAME_LEN`, for which R124 and R125 give no step. Safe; R36 (a) says it
  cannot happen. -/
  | sequencerPosition (p : Nat)
deriving DecidableEq, Repr

/-- Why a step has no meaning. -/
inductive Refusal where
  /-- Raised by an arm of `exec` whose instruction has no meaning yet. Safe. No arm raises it. -/
  | notModelled (mnemonic : String)
  /-- Raised by `step` when the host applies `rst` after the run has begun: R187, U5 "refuse". Safe. -/
  | resetInRun
  /-- Raised by every meaning for a command carried out while `BUSY = 1`: R190, U11 "refuse". Safe. `step` never raises it, since
  the port accepts nothing while `BUSY = 1` (R182; log 10). -/
  | commandDuringRefresh
deriving DecidableEq, Repr

/-- The state an instance is in after reset (R34, R185), for a draw of the memories' contents (U1). -/
def State.start (c : Instance) (draw : Nat) : State where
  cfg := c
  pol := true
  rot := .r0
  ready := false
  busy := false
  scs := false
  txn := false
  pos := 0
  pb := []
  ef := []
  powerUp := draw
  hostIn := []
  txIn := []
  txRest := true
  chunk := []
  events := []
  rsps := []

/-- The machine right after reset, on the instance of log 1. -/
def State.reset : State := State.start Instance.atReset 0

end Sys2Proof.Machine
end

