-- ==== Sys2Proof/Machine/Ops.lean ====
section
/-! DEFINITION. The named operations over memory and registers (`00_scope.md` R14): byte memory, register writes, emitting an
event, responding, and rejecting, which is this block's counterpart of taking an exception (`60_exceptions.md` R167; there is
no return, R168). -/

namespace Sys2Proof.Machine

/-! Derived constants of an instance (R6). -/

/-- `BPL = W / 8`, bytes per line (R6). -/
def bpl (c : Instance) : Nat := c.width / 8

/-- `NBYTES = H * BPL`, the length of `PB` in bytes (R6, R28). -/
def nbytes (c : Instance) : Nat := c.height * bpl c

/-- `FRAME_LEN = 1 + H * (1 + BPL) + 1` (R6, R76). -/
def frameLen (c : Instance) : Nat := 1 + c.height * (1 + bpl c) + 1

/-! Byte memory. -/

/-- The byte written last at an address, if any. -/
def Memory.get? : Memory → Nat → Option Byte
  | [], _ => none
  | (b, w) :: m, a => if a = b then some w else Memory.get? m a

/-- Writing one byte, keeping the addresses strictly rising. -/
def Memory.write : Memory → Nat → Byte → Memory
  | [], a, v => [(a, v)]
  | (b, w) :: m, a, v =>
    if a < b then (a, v) :: (b, w) :: m
    else if a = b then (a, v) :: m
    else (b, w) :: Memory.write m a v

/-- Writing the bytes `f 0` to `f (n - 1)` at addresses 0 to `n - 1`, in ascending order. -/
def Memory.writeAll (m : Memory) (f : Nat → Byte) : Nat → Memory
  | 0 => m
  | n + 1 => Memory.write (Memory.writeAll m f n) n (f n)

/-- The canonical form: addresses strictly rising. No entry can equal what an unlisted address holds, since an unlisted
address holds no written value (log 3). -/
def Memory.wf : Memory → Bool
  | [] => true
  | (a, _) :: m => m.all (fun cell => decide (a < cell.1)) && Memory.wf m

/-- Every listed address is below `n`: the memory lies inside its address space (R28, R29). -/
def Memory.within (m : Memory) (n : Nat) : Bool := m.all (fun cell => decide (cell.1 < n))

/-- Byte `a` of `PB`: the byte written last, else the unspecified reset content, a free value (R34, R53 (b), U1). -/
def State.pbByte (s : State) (a : Nat) : Byte := (Memory.get? s.pb a).getD (Config.pbAtReset s.powerUp a)

/-- Byte `p` of `EF`: the byte written last, else the unspecified reset content, a free value (R29, U12). -/
def State.efByte (s : State) (p : Nat) : Byte := (Memory.get? s.ef p).getD (Config.efAtReset s.powerUp p)

/-! Register writes, `REG <- v` (R14). -/

def State.setPol (s : State) (v : Bool) : State := { s with pol := v }
def State.setRot (s : State) (v : Rot) : State := { s with rot := v }
def State.setReady (s : State) (v : Bool) : State := { s with ready := v }
def State.setBusy (s : State) (v : Bool) : State := { s with busy := v }
def State.setScs (s : State) (v : Bool) : State := { s with scs := v }
def State.setTxn (s : State) (v : Bool) : State := { s with txn := v }
def State.setPos (s : State) (v : Nat) : State := { s with pos := v }
def State.setPb (s : State) (m : Memory) : State := { s with pb := m }
def State.setEf (s : State) (m : Memory) : State := { s with ef := m }
def State.setChunk (s : State) (bytes : List Byte) : State := { s with chunk := bytes }
def State.setHostIn (s : State) (acts : List HostAct) : State := { s with hostIn := acts }
def State.setTxIn (s : State) (moments : List TxMoment) : State := { s with txIn := moments }

/-! Outputs. -/

/-- `emit e` (R14): append one transport event to the output. -/
def State.emit (s : State) (e : TxEvent) : State := { s with events := s.events ++ [e] }

/-- Append one response to the output. -/
def State.answer (s : State) (r : Response) : State := { s with rsps := s.rsps ++ [r] }

/-- `respond(1, val)` (R67). -/
def State.respond (s : State) (val : Bool) : State := s.answer { ok := true, val := val, why := none }

/-- `reject <Reason>` (R14, R161, R167): `respond(0, 0)` and no other change. -/
def State.reject (s : State) (why : Reject) : State := s.answer { ok := false, val := false, why := some why }

/-! Checked accesses to `PB` (R14). -/

/-- `MemRead(a, 1)`, 0 ≤ a < `NBYTES` (R14); any other address does not exist. -/
def State.memRead (s : State) (a : Nat) : Except Fault Byte :=
  if a < nbytes s.cfg then .ok (s.pbByte a) else .error (.pbAddress a)

/-- `MemWrite(a, 1, v)`, 0 ≤ a < `NBYTES` (R14); any other address does not exist. -/
def State.memWrite (s : State) (a : Nat) (v : Byte) : Except Fault State :=
  if a < nbytes s.cfg then .ok (s.setPb (Memory.write s.pb a v)) else .error (.pbAddress a)

/-- `for k in 0 .. NBYTES-1: MemWrite(k, 1, 0xFF)`, the clearing pass of `CLRBUF` and `CLRREF` (R97, R122). -/
def State.clearPb (s : State) : State := s.setPb (Memory.writeAll s.pb (fun _ => 0xFF#8) (nbytes s.cfg))

/-- The admission checks of every command but `INIT` (R166 (3)): `NotReady` while `READY = 0`; else the command is carried out.
A command inside a refresh has no meaning (R190, U11). -/
def admitCommand (s : State) (carriedOut : Host.Outcome State Fault Refusal) : Host.Outcome State Fault Refusal :=
  if s.busy then .refused .commandDuringRefresh
  else if s.ready then carriedOut
  else .next (s.reject .notReady)

/-- The admission checks of `INIT` (R166 (2)): `AlreadyInit`, then `AllocFail`; else the command is carried out. -/
def admitInit (s : State) (carriedOut : Host.Outcome State Fault Refusal) : Host.Outcome State Fault Refusal :=
  if s.busy then .refused .commandDuringRefresh
  else if s.ready then .next (s.reject .alreadyInit)
  else if s.cfg.allocOk then carriedOut
  else .next (s.reject .allocFail)

end Sys2Proof.Machine
end

