-- ==== Sys2Proof/Machine/Lifecycle.lean ====
section
/-! DEFINITION. The commands of `43_config_lifecycle.md`: `INIT` and `SETROT`. -/

namespace Sys2Proof.Machine

/-- `INIT` (R146): `READY <- 1; ROT <- 0; respond(1, 0)`, after the checks of R166 (2). `PB` and `POL` are not written. -/
def execInit (s : State) : Host.Outcome State Fault Refusal :=
  admitInit s (.next (((s.setReady true).setRot .r0).respond false))

/-- `SETROT r` (R147): `ROT <- r; respond(1, 0)`. -/
def execSetrot (r : Rot) (s : State) : Host.Outcome State Fault Refusal :=
  admitCommand s (.next ((s.setRot r).respond false))

end Sys2Proof.Machine
end

