-- ==== Sys2Proof/Machine/Operands.lean ====
section
/-! DEFINITION. The operand forms: logical coordinates, the bounds check, the orientation transform and its inverse, the
buffer index and the per-bit masks (`40_pixel_buffer_ops.md` R90 to R94, `20_memory.md` R41, `10_state.md` R31). -/

namespace Sys2Proof.Machine

/-- `LW` (R90). -/
def logicalWidth (c : Instance) : Rot → Nat
  | .r0 => c.width
  | .r1 => c.height
  | .r2 => c.width
  | .r3 => c.height

/-- `LH` (R90). -/
def logicalHeight (c : Instance) : Rot → Nat
  | .r0 => c.height
  | .r1 => c.width
  | .r2 => c.height
  | .r3 => c.width

/-- The bounds check (R91): `0 ≤ x < LW` and `0 ≤ y < LH`. -/
abbrev InRange (c : Instance) (r : Rot) (x y : Int) : Prop :=
  (0 ≤ x ∧ x < (logicalWidth c r : Int)) ∧ (0 ≤ y ∧ y < (logicalHeight c r : Int))

/-- `phys(ROT, x, y) = (xp, yp)` (R92), applied after the bounds check only; computed on integers (R47). -/
def phys (c : Instance) (r : Rot) (x y : Int) : Nat × Nat :=
  match r with
  | .r0 => (x.toNat, y.toNat)
  | .r1 => (((c.width : Int) - 1 - y).toNat, x.toNat)
  | .r2 => (((c.width : Int) - 1 - x).toNat, ((c.height : Int) - 1 - y).toNat)
  | .r3 => (y.toNat, ((c.height : Int) - 1 - x).toNat)

/-- `logi(ROT, xp, yp) = (x, y)`, the inverse of the transform (R93). -/
def logi (c : Instance) (r : Rot) (xp yp : Nat) : Int × Int :=
  match r with
  | .r0 => ((xp : Int), (yp : Int))
  | .r1 => ((yp : Int), (c.width : Int) - 1 - xp)
  | .r2 => ((c.width : Int) - 1 - xp, (c.height : Int) - 1 - yp)
  | .r3 => ((c.height : Int) - 1 - yp, (xp : Int))

/-- `byteaddr(xp, yp) = (yp * W + xp) div 8` (R41). -/
def byteAddr (c : Instance) (xp yp : Nat) : Nat := (yp * c.width + xp) / 8

/-- `bitpos(xp) = xp mod 8` (R41). -/
def bitPos (xp : Nat) : Nat := xp % 8

/-- The byte address `k` of an in-range logical coordinate (R94). -/
def pixelByte (c : Instance) (r : Rot) (x y : Int) : Nat := byteAddr c (phys c r x y).1 (phys c r x y).2

/-- The bit position `n` of an in-range logical coordinate (R94). -/
def pixelBit (c : Instance) (r : Rot) (x y : Int) : Nat := bitPos (phys c r x y).1

/-- `SETMASK[n]`, 0 ≤ n ≤ 7 (R31). No other index is read. -/
def setMask (n : Nat) : Byte :=
  [0x01#8, 0x02#8, 0x04#8, 0x08#8, 0x10#8, 0x20#8, 0x40#8, 0x80#8].getD n 0x00#8

/-- `CLRMASK[n]`, 0 ≤ n ≤ 7 (R31). No other index is read. -/
def clrMask (n : Nat) : Byte :=
  [0xFE#8, 0xFD#8, 0xFB#8, 0xF7#8, 0xEF#8, 0xDF#8, 0xBF#8, 0x7F#8].getD n 0xFF#8

end Sys2Proof.Machine
end

