-- ==== Sys2Proof/Machine/Flags.lean ====
section
/-! DEFINITION. The flag-like values. The block has no flag register (`10_state.md` R32); what it has is the response bit
`val` of `GETPIX` (`40_pixel_buffer_ops.md` R96), the pixel value of a colour (`30_encoding.md` R65), and the polarity
encoding of the header (`42_polarity_toggler.md` R136). -/

namespace Sys2Proof.Machine

/-- `val` of `GETPIX`: exactly whether the masked bit is set, never the mask value (R96). -/
def pixelOn (byte : Byte) (n : Nat) : Bool := byte &&& setMask n != 0#8

/-- The pixel value a colour writes: 0 for colour 0, 1 for every other (R65). -/
def colourOn (colour : Nat) : Bool := colour != 0

/-- The byte `SETPIX` writes back: bit `n` set or cleared, the other seven kept (R95). -/
def putPixel (old : Byte) (n : Nat) (colour : Nat) : Byte :=
  if colourOn colour then old ||| setMask n else old &&& clrMask n

/-- `polbyte(POL)` (R136). -/
def polByte (c : Instance) (pol : Bool) : Byte := if pol then c.polMask else 0x00#8

end Sys2Proof.Machine
end

