-- ==== Sys2Proof/Machine/PixelOps.lean ====
section
/-! DEFINITION. The commands of `40_pixel_buffer_ops.md`: `SETPIX`, `GETPIX` and `CLRBUF`. -/

namespace Sys2Proof.Machine

/-- The in-range arm of `SETPIX` (R95): read byte `k`, set or clear bit `n`, write it back. -/
def State.writePixel (s : State) (k n colour : Nat) : Except Fault State :=
  match s.memRead k with
  | .error f => .error f
  | .ok old => s.memWrite k (putPixel old n colour)

/-- `SETPIX x, y, colour` (R95). Out of range it is silently ignored (R91). -/
def execSetpix (x y : Int) (colour : Nat) (s : State) : Host.Outcome State Fault Refusal :=
  admitCommand s <|
    if InRange s.cfg s.rot x y then
      match s.writePixel (pixelByte s.cfg s.rot x y) (pixelBit s.cfg s.rot x y) colour with
      | .error f => .fault f
      | .ok s' => .next (s'.respond false)
    else .next (s.respond false)

/-- `GETPIX x, y` (R96). Out of range it reads as dark (R91). -/
def execGetpix (x y : Int) (s : State) : Host.Outcome State Fault Refusal :=
  admitCommand s <|
    if InRange s.cfg s.rot x y then
      match s.memRead (pixelByte s.cfg s.rot x y) with
      | .error f => .fault f
      | .ok byte => .next (s.respond (pixelOn byte (pixelBit s.cfg s.rot x y)))
    else .next (s.respond false)

/-- `CLRBUF` (R97): every byte of `PB` to 0xFF, all light. -/
def execClrbuf (s : State) : Host.Outcome State Fault Refusal :=
  admitCommand s (.next (s.clearPb.respond false))

end Sys2Proof.Machine
end

