-- ==== Sys2Proof/Machine/Frame.lean ====
section
/-! DEFINITION. The frame encoder as a function (`41_frame_encoder.md` R110 to R120) and the wire frame's fields
(`30_encoding.md` R70 to R76). -/

namespace Sys2Proof.Machine

/-- `REV[n]`, 0 ≤ n ≤ 255: the sum over k = 0..7 of `((n div 2^k) mod 2) * 2^(7-k)` (R73, R30). -/
def rev (n : Nat) : Byte :=
  BitVec.ofNat 8 ((List.range 8).foldl (fun acc k => acc + (n / 2 ^ k) % 2 * 2 ^ (7 - k)) 0)

/-- What a frame position holds (R112). -/
inductive Phase where
  | hdr
  | addr (line : Nat)
  | data (line col : Nat)
  | term
deriving DecidableEq, Repr

/-- `(PHASE, LINE, COL)` of a position `0 ≤ p < FRAME_LEN` (R112). Positions beyond are never decomposed. -/
def phaseOf (c : Instance) (p : Nat) : Phase :=
  if p = 0 then .hdr
  else if p = frameLen c - 1 then .term
  else if (p - 1) % (1 + bpl c) = 0 then .addr ((p - 1) / (1 + bpl c))
  else .data ((p - 1) / (1 + bpl c)) ((p - 1) % (1 + bpl c) - 1)

/-- The header byte `CMD_WRITE | polbyte(POL)` (R71, R114). -/
def headerByte (c : Instance) (pol : Bool) : Byte := c.cmdWrite ||| polByte c pol

/-- The address byte of line `i`: `REV[i + 1]` (R72, R115). -/
def addrByte (i : Nat) : Byte := rev (i + 1)

/-- `frame_byte(PB, POL, p)` (R113). -/
def State.frameByte (s : State) (p : Nat) : Byte :=
  match phaseOf s.cfg p with
  | .hdr => headerByte s.cfg s.pol
  | .addr line => addrByte line
  | .data line col => s.pbByte (line * bpl s.cfg + col)
  | .term => 0x00#8

/-- `frame(PB, POL)`: the `FRAME_LEN` bytes of one refresh (R113). -/
def State.frame (s : State) : List Byte := (List.range (frameLen s.cfg)).map s.frameByte

/-- `rec(i)`: the line record of line `i`, its address byte and its `BPL` data bytes (R113, R115). -/
def State.lineRecord (s : State) (i : Nat) : List Byte :=
  addrByte i :: (List.range (bpl s.cfg)).map (fun j => s.pbByte (i * bpl s.cfg + j))

/-- The byte lists of the sends of one refresh: one chunk for `STAGED` (R118), `H + 2` for `STREAMING` (R119). -/
def State.chunks (s : State) : List (List Byte) :=
  match s.cfg.strategy with
  | .staged => [s.frame]
  | .streaming =>
    [[headerByte s.cfg s.pol]] ++ (List.range s.cfg.height).map s.lineRecord ++ [[0x00#8]]

/-- `refresh_events(PB, POL)` (R120). -/
def State.refreshEvents (s : State) : List TxEvent :=
  [.txnBegin s.cfg.busCfg, .csHigh] ++ s.chunks.map TxEvent.send ++ [.csLow, .txnEnd]

/-- `flatten` of an event list: the bytes of its sends, in order (R16). -/
def flattenEvents : List TxEvent → List Byte
  | [] => []
  | .send bytes :: es => bytes ++ flattenEvents es
  | .txnBegin _ :: es => flattenEvents es
  | .csHigh :: es => flattenEvents es
  | .csLow :: es => flattenEvents es
  | .txnEnd :: es => flattenEvents es

/-- `last(p)`: whether position `p` is the final byte of a chunk (R124). -/
def isLast (c : Instance) (p : Nat) : Bool :=
  match c.strategy with
  | .staged => p == frameLen c - 1
  | .streaming =>
    match phaseOf c p with
    | .hdr => true
    | .addr _ => false
    | .data _ col => col == bpl c - 1
    | .term => true

/-- Reading the physical pixel `(xp, yp)` back from a frame (R117). -/
def pixelOfFrame (c : Instance) (bytes : List Byte) (xp yp : Nat) : Bool :=
  (bytes.getD (1 + yp * (1 + bpl c) + 1 + xp / 8) 0x00#8).getLsbD (xp % 8)

end Sys2Proof.Machine
end

