-- ==== Sys2Proof/Machine/Sequencer.lean ====
section
/-! DEFINITION. The frame sequencer, step by step (`41_frame_encoder.md` R123 to R127), the polarity toggler
(`42_polarity_toggler.md` R139), and the byte channel's waiting (`70_reset_and_hazards.md` R196). -/

namespace Sys2Proof.Machine

/-- `TOGGLE`: `POL <- 1 - POL` (R139). -/
def State.toggle (s : State) : State := s.setPol (!s.pol)

/-- The staging pass: with `STAGED`, `EF[p] <- frame_byte(PB, POL, p)` for `p = 0 .. FRAME_LEN - 1` (R118, R123); with `STREAMING`
there is no `EF` (R29). -/
def State.stageFrame (s : State) : State :=
  match s.cfg.strategy with
  | .staged => s.setEf (Memory.writeAll s.ef s.frameByte (frameLen s.cfg))
  | .streaming => s

/-- `TxnBegin(BUSCFG)`: sets `TXN` (R176). -/
def State.openTxn (s : State) : State := (s.setTxn true).emit (.txnBegin s.cfg.busCfg)

/-- `CsHigh`: sets `SCS` (R179). -/
def State.raiseCs (s : State) : State := (s.setScs true).emit .csHigh

/-- `CsLow`: clears `SCS` (R179). -/
def State.dropCs (s : State) : State := (s.setScs false).emit .csLow

/-- `TxnEnd`: clears `TXN` (R178). -/
def State.closeTxn (s : State) : State := (s.setTxn false).emit .txnEnd

/-- The start step of a refresh (R123). The run of bytes of the first send begins here (R124). -/
def State.startRefresh (s : State) : State :=
  ((((s.setBusy true).stageFrame.openTxn).raiseCs).setPos 0).setChunk []

/-- The byte on offer, `tx_data` (R124, R181): from `EF` with `STAGED`, from `PB` with `STREAMING`. No byte is on offer while
`tx_valid = 0`; the value then is a DESIGN CHOICE that no step reads (log 15). -/
def State.offeredByte (s : State) : Byte :=
  match s.cfg.strategy with
  | .staged => s.efByte s.pos
  | .streaming => s.frameByte s.pos

/-- `tx_ready` at this moment of offer (R181; log 8). -/
def State.txReady (s : State) : Bool :=
  match s.txIn with
  | [] => s.txRest
  | m :: _ => m.ready

/-- The moment of offer passes. The byte the transport returned in it is discarded (R180). -/
def State.passMoment (s : State) : State := s.setTxIn s.txIn.tail

/-- The transport takes the byte on offer (R124): the byte joins the current send, which is emitted when the byte is flagged
`last`, and `POS` advances by 1. -/
def State.takeByte (s : State) : State :=
  if isLast s.cfg s.pos then
    ((s.emit (.send (s.chunk ++ [s.offeredByte]))).setChunk []).setPos (s.pos + 1)
  else
    (s.setChunk (s.chunk ++ [s.offeredByte])).setPos (s.pos + 1)

/-- The finish step (R125): chip-select falls, the transaction ends, the polarity flips, then the response is produced. -/
def State.finishRefresh (s : State) : State :=
  (((s.dropCs.closeTxn.toggle).setPos 0).setBusy false).respond false

/-- The block's step while `BUSY = 1`: a byte step (R124) when the transport takes the byte, a wait when it does not (R196), the finish
step at `POS = FRAME_LEN` (R125). -/
def sequencerStep (s : State) : Host.Outcome State Fault Refusal :=
  if s.pos < frameLen s.cfg then
    if s.txReady then .next s.passMoment.takeByte else .next s.passMoment
  else if s.pos = frameLen s.cfg then .next s.finishRefresh
  else .fault (.sequencerPosition s.pos)

/-- The state `REFRESH` leaves when it has ended, in the one-transition form of R121: the events of R120 emitted, `POL` toggled
once, the sequencer registers back to 0, `EF` staged when present, the response produced. -/
def State.refreshed (s : State) : State :=
  { s.stageFrame with
    events := s.events ++ s.refreshEvents
    pol := !s.pol
    busy := false
    scs := false
    txn := false
    pos := 0
    chunk := []
    rsps := s.rsps ++ [{ ok := true, val := false, why := none }] }

end Sys2Proof.Machine
end

