-- ==== Sys2Proof/Machine/Refresh.lean ====
section
/-! DEFINITION. The commands of `41_frame_encoder.md`: `REFRESH` and `CLRREF`. Each is accepted by its start step (R123);
the byte steps and the finish step, which answers, are the sequencer's (R124, R125, R200). -/

namespace Sys2Proof.Machine

/-- `REFRESH` (R121, in the steps of R123 to R125). -/
def execRefresh (s : State) : Host.Outcome State Fault Refusal :=
  admitCommand s (.next s.startRefresh)

/-- `CLRREF` (R122): the clearing pass of `CLRBUF`, then the start step of a refresh of the cleared buffer. -/
def execClrref (s : State) : Host.Outcome State Fault Refusal :=
  admitCommand s (.next s.clearPb.startRefresh)

end Sys2Proof.Machine
end

