-- ==== Sys2Proof/Machine/Dispatch.lean ====
section
/-! DEFINITION. The dispatch of a decoded command to its meaning (`30_encoding.md` R82 (3)). -/

namespace Sys2Proof.Machine

def exec (i : Instr) (s : State) : Host.Outcome State Fault Refusal :=
  match i with
  | .init => Sys2Proof.Machine.execInit s
  | .setrot r => Sys2Proof.Machine.execSetrot r s
  | .setpix x y colour => Sys2Proof.Machine.execSetpix x y colour s
  | .getpix x y => Sys2Proof.Machine.execGetpix x y s
  | .clrbuf => Sys2Proof.Machine.execClrbuf s
  | .clrref => Sys2Proof.Machine.execClrref s
  | .refresh => Sys2Proof.Machine.execRefresh s

end Sys2Proof.Machine
end

