-- ==== Sys2Proof/WellFormed.lean ====
section
/-! DEFINITION. When a command's operands fit their fields (`30_encoding.md` R80: "an operand that does not fit its field
is an assembly error, not a truncation"). -/

namespace Sys2Proof

/-- A coordinate fits the 16-bit two's-complement field: −32768 to 32767 (R64, R80). -/
def coordFits (v : Int) : Bool := decide (-32768 ≤ v) && decide (v ≤ 32767)

/-- A colour fits the 16-bit unsigned field: 0 to 65535 (R65, R80). -/
def colourFits (c : Nat) : Bool := decide (c ≤ 65535)

/-- Every operand of the command fits its field. A rotation always does (R66). -/
def Instr.wellFormed : Instr → Bool
  | .init => true
  | .setrot _ => true
  | .setpix x y colour => coordFits x && coordFits y && colourFits colour
  | .getpix x y => coordFits x && coordFits y
  | .clrbuf => true
  | .clrref => true
  | .refresh => true

end Sys2Proof
end

