-- ==== Sys2Proof/Decode.lean ====
section
/-! DEFINITION. The encoding of commands (`30_encoding.md` R60 to R68, R80, R82): the opcode table, the total decoder, which
rejects by name, and the encoder. -/

namespace Sys2Proof

/-- The seven rows of the opcode map (R63). -/
inductive Opcode where
  | init
  | setrot
  | setpix
  | getpix
  | clrbuf
  | clrref
  | refresh
deriving DecidableEq, Repr

/-- One row of the opcode map: a word `cw` is the row's command exactly when `cw &&& mask = pattern` (R63). -/
structure OpcodeRow where
  opcode : Opcode
  pattern : CmdWord
  mask : CmdWord
deriving DecidableEq, Repr

/-- The opcode map of R63 (`match` is named `pattern`). -/
def opcodeTable : List OpcodeRow :=
  [ ⟨.init,    0x01000000000000#56, 0xFFFFFFFFFFFFFF#56⟩,
    ⟨.setrot,  0x02000000000000#56, 0xFFFFFFFFFFFFFC#56⟩,
    ⟨.setpix,  0x10000000000000#56, 0xFF000000000000#56⟩,
    ⟨.getpix,  0x11000000000000#56, 0xFF00000000FFFF#56⟩,
    ⟨.clrbuf,  0x20000000000000#56, 0xFFFFFFFFFFFFFF#56⟩,
    ⟨.clrref,  0x21000000000000#56, 0xFFFFFFFFFFFFFF#56⟩,
    ⟨.refresh, 0x30000000000000#56, 0xFFFFFFFFFFFFFF#56⟩ ]

/-- The word matches the row (R63). -/
def OpcodeRow.matchesWord (row : OpcodeRow) (cw : CmdWord) : Bool := cw &&& row.mask == row.pattern

/-- Step (1) of R82: the row the word matches, if any. -/
def rowOfWord (cw : CmdWord) : Option OpcodeRow := opcodeTable.find? (fun row => row.matchesWord cw)

/-- `op = cw[55:48]` (R61). -/
def opField (cw : CmdWord) : Byte := cw.extractLsb' 48 8

/-- `a = cw[47:32]` (R61). -/
def aField (cw : CmdWord) : Field := cw.extractLsb' 32 16

/-- `b = cw[31:16]` (R61). -/
def bField (cw : CmdWord) : Field := cw.extractLsb' 16 16

/-- `c = cw[15:0]` (R61). -/
def cField (cw : CmdWord) : Field := cw.extractLsb' 0 16

/-- `r = c[1:0]` (R66). -/
def rField (cw : CmdWord) : BitVec 2 := cw.extractLsb' 0 2

/-- The rotation a 2-bit operand names (R66). -/
def Rot.ofBits (b : BitVec 2) : Rot :=
  if b = 0#2 then .r0 else if b = 1#2 then .r1 else if b = 2#2 then .r2 else .r3

/-- The two bits of the rotation register (R22, R66). -/
def Rot.toBits : Rot → BitVec 2
  | .r0 => 0#2
  | .r1 => 1#2
  | .r2 => 2#2
  | .r3 => 3#2

/-- A coordinate operand: the field read as a two's-complement signed integer (R64). -/
def coordOfField (f : Field) : Int := f.toInt

/-- A colour operand: the field read as an unsigned integer (R65). -/
def colourOfField (f : Field) : Nat := f.toNat

/-- Step (2) of R82: the operands of the row's format (R62, R64 to R66). -/
def operandsOf (o : Opcode) (cw : CmdWord) : Instr :=
  match o with
  | .init => .init
  | .setrot => .setrot (Rot.ofBits (rField cw))
  | .setpix => .setpix (coordOfField (aField cw)) (coordOfField (bField cw)) (colourOfField (cField cw))
  | .getpix => .getpix (coordOfField (aField cw)) (coordOfField (bField cw))
  | .clrbuf => .clrbuf
  | .clrref => .clrref
  | .refresh => .refresh

/-- Why a word is illegal (R68). Both are the one rejection reason `Illegal` of R161. -/
inductive Illegal where
  /-- `op` is not one of the seven assigned values. -/
  | unassignedOpcode (op : Byte)
  /-- `op` is assigned and a reserved bit of its format is 1. -/
  | reservedBitSet (op : Byte)
deriving DecidableEq, Repr

/-- The seven assigned values of `op` (R63). -/
def assignedOpcodes : List Byte := [0x01#8, 0x02#8, 0x10#8, 0x11#8, 0x20#8, 0x21#8, 0x30#8]

/-- The name of an illegal word's defect (R68). -/
def illegalReason (cw : CmdWord) : Illegal :=
  if assignedOpcodes.contains (opField cw) then .reservedBitSet (opField cw) else .unassignedOpcode (opField cw)

/-- The decoding procedure, total on all 2^56 words (R82). -/
def decode (cw : CmdWord) : Except Illegal Instr :=
  match rowOfWord cw with
  | some row => .ok (operandsOf row.opcode cw)
  | none => .error (illegalReason cw)

/-- The command word `{op, a, b, c}` (R61; concatenation as in R13). -/
def packWord (op : Byte) (a b c : Field) : CmdWord := ((op ++ a) ++ b) ++ c

/-- The field of a coordinate: its 16-bit two's-complement pattern (R80). DESIGN CHOICE: a coordinate that does not fit, for which R80
gives no field, is taken modulo 2^16 (log 16). -/
def fieldOfCoord (v : Int) : Field := BitVec.ofInt 16 v

/-- The field of a colour: its 16-bit unsigned value (R80). DESIGN CHOICE: a colour that does not fit, for which R80 gives no field, is
taken modulo 2^16 (log 16). -/
def fieldOfColour (c : Nat) : Field := BitVec.ofNat 16 c

/-- The field of a rotation: `{0b00000000000000, r}` (R62). -/
def fieldOfRot (r : Rot) : Field := 0#14 ++ r.toBits

/-- The word of a well-formed command (R80: 0 in every reserved bit). DESIGN CHOICE: R80 gives no word to a command whose operand does
not fit its field, an assembly error and not a truncation. This total function gives it the word with that operand modulo 2^16, which
is the word of another command; no step and no decoding calls `encode` (log 16). -/
def encode : Instr → CmdWord
  | .init => packWord 0x01#8 0#16 0#16 0#16
  | .setrot r => packWord 0x02#8 0#16 0#16 (fieldOfRot r)
  | .setpix x y colour => packWord 0x10#8 (fieldOfCoord x) (fieldOfCoord y) (fieldOfColour colour)
  | .getpix x y => packWord 0x11#8 (fieldOfCoord x) (fieldOfCoord y) 0#16
  | .clrbuf => packWord 0x20#8 0#16 0#16 0#16
  | .clrref => packWord 0x21#8 0#16 0#16 0#16
  | .refresh => packWord 0x30#8 0#16 0#16 0#16

/-- The command word whose bits are `w`, numbered as `spec/opcode_table.json` numbers them. The command word is one 56-bit value
on a parallel port and has no byte order (`20_memory.md` R45), so its bit `k` is the table's bit `k`. -/
def tableWord (nbits w : Nat) : CmdWord := BitVec.ofNat 56 (w % 2 ^ nbits)

/-- The command the decoder reads from an instruction of the opcode table whose bits are `w`. -/
def decodeTableWord (nbits w : Nat) : Option Instr :=
  match decode (tableWord nbits w) with
  | .ok i => some i
  | .error _ => none

end Sys2Proof
end

