-- ==== Sys2Proof/Machine/Ports.lean ====
section
/-! DEFINITION. The block's ports: the status outputs (`43_config_lifecycle.md` R148, R149), the byte channel
(`60_exceptions.md` R181), the command and response ports (R182), what the block does next with its inputs
(`70_reset_and_hazards.md` R200, R201), and when a run is over (R203). -/

namespace Sys2Proof.Machine

/-- `o_rot = ROT` (R148). -/
def State.oRot (s : State) : BitVec 2 := s.rot.toBits

/-- `o_width = LW`, 16 bits (R148). -/
def State.oWidth (s : State) : BitVec 16 := BitVec.ofNat 16 (logicalWidth s.cfg s.rot)

/-- `o_height = LH`, 16 bits (R148). -/
def State.oHeight (s : State) : BitVec 16 := BitVec.ofNat 16 (logicalHeight s.cfg s.rot)

/-- `o_ready = READY` (R149). -/
def State.oReady (s : State) : Bool := s.ready

/-- `o_busy = BUSY` (R149). -/
def State.oBusy (s : State) : Bool := s.busy

/-- `o_txn = TXN` (R181). -/
def State.oTxn (s : State) : Bool := s.txn

/-- `o_scs = SCS` (R179, R181). -/
def State.oScs (s : State) : Bool := s.scs

/-- `tx_valid`: `BUSY = 1` and `POS < FRAME_LEN` (R181). -/
def State.txValid (s : State) : Bool := s.busy && decide (s.pos < frameLen s.cfg)

/-- `tx_data` while `tx_valid = 1` (R181). DESIGN CHOICE: R181 gives no value while `tx_valid = 0`, and this total function goes on giving
the byte at `POS` then; nothing reads it (log 15). -/
def State.txData (s : State) : Byte := s.offeredByte

/-- `tx_last` while `tx_valid = 1` (R181). DESIGN CHOICE: R181 gives no value while `tx_valid = 0`, and this total function goes on giving
`last(POS)` then; nothing reads it (log 15). -/
def State.txLast (s : State) : Bool := isLast s.cfg s.pos

/-- `cmd_ready = 1` exactly when `BUSY = 0` (R182). -/
def State.cmdReady (s : State) : Bool := !s.busy

/-- The response port as a step leaves it (R182): the response a step produced, `none` for `rsp_valid = 0`. The port shows
`rsp_ok` and `rsp_val` only. -/
def rspPort (before after : State) : Option (Bool × Bool) :=
  ((after.rsps.drop before.rsps.length).head?).map (fun r => (r.ok, r.val))

/-- What the block does next with what stands at its inputs. -/
inductive NextAct where
  /-- `rst` is applied in mid-run. -/
  | rstApplied
  /-- A refresh is in progress: the sequencer has the step. -/
  | sequencer
  /-- No word is presented: nothing happens, and the state is this. -/
  | idle (s : State)
  /-- A word is accepted, leaving the state in which it is carried out. -/
  | accept (cw : CmdWord) (s : State)

/-- The block's next act. Reset outranks everything (R166); while `BUSY = 1` the port accepts nothing and a word presented waits
(R182); otherwise the next word is accepted, in the order presented (R53 (a)). -/
def State.nextAct (s : State) : NextAct :=
  match s.hostIn with
  | .rst :: _ => .rstApplied
  | .word cw :: rest => if s.busy then .sequencer else .accept cw (s.setHostIn rest)
  | .pause :: rest => if s.busy then .sequencer else .idle (s.setHostIn rest)
  | [] => if s.busy then .sequencer else .idle s

/-- An accepted word that is illegal (R68): rejected, nothing else. -/
def rejectIllegal (_why : Illegal) (s : State) : Host.Outcome State Fault Refusal := .next (s.reject .illegal)

/-- The command words among the host's coming acts: those not accepted yet, in order (R182, R203). -/
def pendingWords : List HostAct → List CmdWord
  | [] => []
  | .word cw :: acts => cw :: pendingWords acts
  | .pause :: acts => pendingWords acts
  | .rst :: acts => pendingWords acts

/-- The run is over: every word of it has been accepted and `BUSY = 0`, so each has produced its response (R203). Acts of the
host that present no word keep no run from being over. -/
def State.runOver (s : State) : Bool := (pendingWords s.hostIn).isEmpty && !s.busy

/-- A command word placed first in line at the command port. -/
def State.present (s : State) (cw : CmdWord) : State := s.setHostIn (.word cw :: s.hostIn)

end Sys2Proof.Machine
end

