-- ==== Sys2Proof/Machine/Step.lean ====
section
/-! DEFINITION. One step of the block (`70_reset_and_hazards.md` R200): accepting and carrying out a word, a step of the
sequencer, or a moment at which nothing is presented. -/

namespace Sys2Proof.Machine

/-- One step. -/
def step (s : State) : Host.Outcome State Fault Refusal :=
  match s.nextAct with
  | .rstApplied => .refused .resetInRun
  | .sequencer => sequencerStep s
  | .idle s' => .next s'
  | .accept cw s' =>
    match decode cw with
    | .ok i => exec i s'
    | .error why => rejectIllegal why s'

/-- `s` with the command word whose table bits are `w` presented first at the command port, where `step` takes its next word
(log 6). -/
def State.withFetchWord (s : State) (nbits w : Nat) : State := s.present (tableWord nbits w)

end Sys2Proof.Machine
end

