-- ==== Sys2Proof/Safety.lean ====
section
/-! DEFINITION. What counts as a safe state and a finished run: the invariants of `10_state.md` R36, the lifecycle
(`43_config_lifecycle.md` R145), and the observation of a run (`70_reset_and_hazards.md` R203; its end is `State.runOver` of `Machine/Ports.lean`). -/

namespace Sys2Proof.Machine

/-- R36 (a): `POS ≤ FRAME_LEN`. -/
def State.PosBounded (s : State) : Prop := s.pos ≤ frameLen s.cfg

/-- R36 (b): `BUSY = 0` implies `SCS = 0`, `TXN = 0`, `POS = 0`; and no byte of a send is outstanding. -/
def State.QuietWhenIdle (s : State) : Prop :=
  s.busy = false → s.scs = false ∧ s.txn = false ∧ s.pos = 0 ∧ s.chunk = []

/-- R36 (c): `SCS = 1` implies `TXN = 1` and `BUSY = 1`. -/
def State.SelectedInsideTxn (s : State) : Prop := s.scs = true → s.txn = true ∧ s.busy = true

/-- Between the start step and the finish step (R123 to R125) chip-select is high and the transaction is open. -/
def State.SelectedWhileBusy (s : State) : Prop := s.busy = true → s.scs = true ∧ s.txn = true

/-- R36 (d): `BUSY = 1` implies `READY = 1`. -/
def State.BusyOnlyWhenReady (s : State) : Prop := s.busy = true → s.ready = true

/-- R36 (e): `READY = 1` implies `ALLOC_OK = true`. -/
def State.ReadyOnlyWhenAllocated (s : State) : Prop := s.ready = true → s.cfg.allocOk = true

/-- R36 (f), R28, R29: `PB` and `EF` lie inside their address spaces, in canonical form, and `EF` exists with `STAGED` only. -/
def State.MemoriesFit (s : State) : Prop :=
  (Memory.wf s.pb = true ∧ Memory.within s.pb (nbytes s.cfg) = true) ∧
  (Memory.wf s.ef = true ∧ Memory.within s.ef (frameLen s.cfg) = true) ∧
  (s.cfg.strategy = .streaming → s.ef = [])

/-- The number of refreshes completed: each ends with exactly one `TxnEnd` (R120). -/
def State.completedRefreshes (s : State) : Nat := s.events.countP (fun e => decide (e = TxEvent.txnEnd))

/-- R36 (g), the parity law R142: `POL = 1` exactly when the number of refreshes completed is even. -/
def State.PolarityIsParity (s : State) : Prop := s.pol = decide (s.completedRefreshes % 2 = 0)

/-- R118, R124: while a staged refresh is in progress `EF` holds the frame of the current `PB` and `POL`. -/
def State.ScratchIsFrame (s : State) : Prop :=
  s.busy = true → s.cfg.strategy = .staged → ∀ p, p < frameLen s.cfg → s.efByte p = s.frameByte p

/-- R124: the last byte of the frame ends a send in both strategies, so no byte of a send is outstanding at `POS = FRAME_LEN`. -/
def State.NoSendOpenAtEnd (s : State) : Prop := s.busy = true → s.pos = frameLen s.cfg → s.chunk = []

/-- The invariants of R36, and those the sequencer keeps besides. -/
def State.Inv (s : State) : Prop :=
  s.PosBounded ∧ s.QuietWhenIdle ∧ s.SelectedInsideTxn ∧ s.SelectedWhileBusy ∧ s.BusyOnlyWhenReady ∧
  s.ReadyOnlyWhenAllocated ∧ s.MemoriesFit ∧ s.PolarityIsParity ∧ s.ScratchIsFrame ∧ s.NoSendOpenAtEnd

/-- The lifecycle states of R145. -/
inductive Lifecycle where
  | uninitialised
  | ready
  | refreshing
deriving DecidableEq, Repr

/-- The lifecycle state, read off `READY` and `BUSY` (R145). -/
def State.lifecycle (s : State) : Lifecycle :=
  if s.ready then (if s.busy then .refreshing else .ready) else .uninitialised

/-- The instance is ready (R145): a command other than `INIT` is carried out (R166). -/
def State.Ready (s : State) : Prop := s.busy = false ∧ s.ready = true

/-- The instance is uninitialised (R145): only `INIT` is carried out (R171). -/
def State.Uninitialised (s : State) : Prop := s.busy = false ∧ s.ready = false

/-- The host does not apply `rst` at this moment (R187). -/
def State.NoRst (s : State) : Prop := s.hostIn.head? ≠ some .rst

/-- The observation of a finished run (R203): the responses as the port shows them, the events, and the final `POL`, `ROT`, `READY`,
`PB`. -/
structure Observation where
  responses : List (Bool × Bool)
  events : List TxEvent
  pol : Bool
  rot : Rot
  ready : Bool
  pb : List Byte
deriving DecidableEq, Repr

/-- What is observed of a state (R203). `EF` is not part of it (R29). -/
def State.observe (s : State) : Observation where
  responses := s.rsps.map (fun r => (r.ok, r.val))
  events := s.events
  pol := s.pol
  rot := s.rot
  ready := s.ready
  pb := (List.range (nbytes s.cfg)).map s.pbByte

/-- The transport never again takes a byte (R196, U6): nothing is left of its script but not-ready moments, and it stays not ready. -/
def State.transportStalled (s : State) : Prop := (∀ m ∈ s.txIn, m.ready = false) ∧ s.txRest = false

end Sys2Proof.Machine
end

