-- ==== Sys2Proof/Certificates/Slice0/Obligations.lean ====
section
/-! DEFINITION. The statements for the provers. Each docstring names the rules of `spec/` it formalises. -/

open Sys2Proof Sys2Proof.Machine

/-! Encoding (`30_encoding.md`). -/

/-- Words written out from R63 and R80, one or more per format, decode to the commands they stand for (R82's two worked examples
among them). -/
def Obligations.SampleWordsDecode : Prop :=
  decode 0x01000000000000#56 = .ok .init ∧
  decode 0x02000000000003#56 = .ok (.setrot .r3) ∧
  decode 0x10000A00010001#56 = .ok (.setpix 10 1 1) ∧
  decode 0x100005FFFF0001#56 = .ok (.setpix 5 (-1) 1) ∧
  decode 0x11000F00020000#56 = .ok (.getpix 15 2) ∧
  decode 0x20000000000000#56 = .ok .clrbuf ∧
  decode 0x21000000000000#56 = .ok .clrref ∧
  decode 0x30000000000000#56 = .ok .refresh ∧
  decode 0x02000000000004#56 = .error (.reservedBitSet 0x02#8) ∧
  decode 0x00000000000000#56 = .error (.unassignedOpcode 0x00#8)

/-- R61: the fields of a word are the four it is packed from, and a word is its four fields. -/
def Obligations.WordIsItsFourFields : Prop :=
  (∀ (op : Byte) (a b c : Field),
    opField (packWord op a b c) = op ∧ aField (packWord op a b c) = a ∧
    bField (packWord op a b c) = b ∧ cField (packWord op a b c) = c) ∧
  (∀ w : CmdWord, packWord (opField w) (aField w) (bField w) (cField w) = w)

/-- R63: the opcode map's seven rows; a word is decoded exactly when a row matches it, to a command of that row; and at most one
row matches a word. -/
def Obligations.OpcodeMapIsUnambiguous : Prop :=
  opcodeTable.map (fun row => (row.opcode, row.pattern, row.mask)) =
    [ (.init,    0x01000000000000#56, 0xFFFFFFFFFFFFFF#56),
      (.setrot,  0x02000000000000#56, 0xFFFFFFFFFFFFFC#56),
      (.setpix,  0x10000000000000#56, 0xFF000000000000#56),
      (.getpix,  0x11000000000000#56, 0xFF00000000FFFF#56),
      (.clrbuf,  0x20000000000000#56, 0xFFFFFFFFFFFFFF#56),
      (.clrref,  0x21000000000000#56, 0xFFFFFFFFFFFFFF#56),
      (.refresh, 0x30000000000000#56, 0xFFFFFFFFFFFFFF#56) ] ∧
  (∀ (w : CmdWord), ∀ row ∈ opcodeTable, w &&& row.mask = row.pattern → decode w = .ok (operandsOf row.opcode w)) ∧
  (∀ (w : CmdWord) (i : Instr), decode w = .ok i →
    ∃ row ∈ opcodeTable, w &&& row.mask = row.pattern ∧ i = operandsOf row.opcode w) ∧
  (∀ (w : CmdWord), ∀ row₁ ∈ opcodeTable, ∀ row₂ ∈ opcodeTable,
    w &&& row₁.mask = row₁.pattern → w &&& row₂.mask = row₂.pattern → row₁ = row₂)

/-- R62, R68: a word is illegal, by the name of its defect, exactly when its opcode is not one of the seven or a reserved bit of its
format is 1. -/
def Obligations.IllegalWordsAreThoseOfNoFormat : Prop :=
  (∀ w : CmdWord, decode w = .error (.unassignedOpcode (opField w)) ↔
    opField w ≠ 0x01#8 ∧ opField w ≠ 0x02#8 ∧ opField w ≠ 0x10#8 ∧ opField w ≠ 0x11#8 ∧
    opField w ≠ 0x20#8 ∧ opField w ≠ 0x21#8 ∧ opField w ≠ 0x30#8) ∧
  (∀ w : CmdWord, decode w = .error (.reservedBitSet (opField w)) ↔
    ((opField w = 0x01#8 ∨ opField w = 0x20#8 ∨ opField w = 0x21#8 ∨ opField w = 0x30#8) ∧
      ¬ (aField w = 0#16 ∧ bField w = 0#16 ∧ cField w = 0#16)) ∨
    (opField w = 0x02#8 ∧ ¬ (aField w = 0#16 ∧ bField w = 0#16 ∧ (cField w).toNat < 4)) ∨
    (opField w = 0x11#8 ∧ cField w ≠ 0#16))

/-- R80, R82, R64 to R66: decoding the word of a well-formed command gives the command back, with every operand. -/
def Obligations.DecodeEncodeRoundTrip : Prop :=
  ∀ i : Instr, i.wellFormed = true → decode (encode i) = .ok i

/-- R63, R80: a word that decodes is the word of the command it decodes to, whose operands fit their fields. -/
def Obligations.EncodeDecodeRoundTrip : Prop :=
  ∀ (w : CmdWord) (i : Instr), decode w = .ok i → i.wellFormed = true ∧ encode i = w

/-- R64: the signed and the unsigned reading of the coordinate fields agree on every outcome: they are in range together, and then
they are equal. -/
def Obligations.SignednessChangesNoOutcome : Prop :=
  ∀ (c : Instance) (r : Rot) (a b : Field),
    (InRange c r (coordOfField a) (coordOfField b) ↔ InRange c r (a.toNat : Int) (b.toNat : Int)) ∧
    (InRange c r (coordOfField a) (coordOfField b) → coordOfField a = a.toNat ∧ coordOfField b = b.toNat)

/-! The step and the command port (`60_exceptions.md`, `70_reset_and_hazards.md`). -/

/-- R82, R182, R200: with `BUSY = 0` and a word presented that decodes to `i`, a step is `exec i` on the state with that word taken
off the port and nothing else done around it. The command port as a list of the host's acts is the model's (log 6). -/
def Obligations.StepRunsDecodedWord : Prop :=
  ∀ (s : State) (cw : CmdWord) (rest : List HostAct) (i : Instr),
    s.busy = false → s.hostIn = .word cw :: rest → decode cw = .ok i →
    step s = exec i { s with hostIn := rest }

/-- R68, R161: an illegal word is accepted, answered `(0, 0)` with reason `Illegal`, and changes no state and emits no event,
whether the instance is initialised or not. The command port as a list of the host's acts is the model's (log 6). -/
def Obligations.IllegalWordRejected : Prop :=
  ∀ (s : State) (cw : CmdWord) (rest : List HostAct) (why : Illegal),
    s.busy = false → s.hostIn = .word cw :: rest → decode cw = .error why →
    step s = .next { s with
      hostIn := rest
      rsps := s.rsps ++ [{ ok := false, val := false, why := some .illegal }] }

/-- R182, R190, R49: while `BUSY = 1` the port accepts nothing and no command's effect happens: the host's words wait, and `PB`,
`ROT`, `READY` are as before. The command port as a list of the host's acts is the model's (log 6). -/
def Obligations.RefreshAcceptsNoWord : Prop :=
  ∀ s t : State, s.busy = true → step s = .next t →
    s.cmdReady = false ∧ t.hostIn = s.hostIn ∧ t.pb = s.pb ∧ t.rot = s.rot ∧ t.ready = s.ready

/-- R201, R203: with no word presented nothing happens, for any length of time. A run is over exactly when no word is left and
`BUSY = 0`, and from there on no step changes that or the observation. The pause as an act of the host is the model's (log 6). -/
def Obligations.NoWordNothingHappens : Prop :=
  (∀ s : State, s.busy = false → s.hostIn = [] → ∀ n : Nat, core.run n s = .next s) ∧
  (∀ (s : State) (rest : List HostAct), s.busy = false → s.hostIn = .pause :: rest →
    step s = .next { s with hostIn := rest }) ∧
  (∀ s : State, s.runOver = true ↔ s.busy = false ∧ ∀ cw : CmdWord, HostAct.word cw ∉ s.hostIn) ∧
  (∀ s t : State, s.runOver = true → step s = .next t → t.runOver = true ∧ t.observe = s.observe)

/-- R187, U5: a reset applied at any point of a run has no meaning and is refused, and nothing else is ever refused by a step. How
`rst` reaches the model is the model's (log 6, log 7). -/
def Obligations.StepRefusesOnlyReset : Prop :=
  (∀ s : State, s.hostIn.head? = some .rst → step s = .refused .resetInRun) ∧
  (∀ (s : State) (why : Refusal), step s = .refused why → s.hostIn.head? = some .rst ∧ why = .resetInRun)

/-! Reset (`10_state.md` R34, `70_reset_and_hazards.md` R185, R186). -/

/-- R34: the state after reset, for every instance and every draw of the memories' contents. Of `PB` it says that each byte reads as
the free value `Config.pbAtReset`, whatever that is. The free value is the model's (log 3). -/
def Obligations.ResetLeaves : Prop :=
  ∀ (c : Instance) (draw : Nat),
    (State.start c draw).pol = true ∧ (State.start c draw).rot = .r0 ∧ (State.start c draw).ready = false ∧
    (State.start c draw).busy = false ∧ (State.start c draw).scs = false ∧ (State.start c draw).txn = false ∧
    (State.start c draw).pos = 0 ∧
    (∀ a, (State.start c draw).pbByte a = Config.pbAtReset draw a) ∧
    (State.start c draw).lifecycle = .uninitialised

/-- R186: the outputs at and after reset, until the first command, and that reset emits no event and answers nothing. -/
def Obligations.OutputsAfterReset : Prop :=
  ∀ (c : Instance) (draw : Nat),
    (State.start c draw).cmdReady = true ∧ (State.start c draw).rsps = [] ∧ (State.start c draw).txValid = false ∧
    (State.start c draw).oScs = false ∧ (State.start c draw).oTxn = false ∧ (State.start c draw).oBusy = false ∧
    (State.start c draw).oReady = false ∧ (State.start c draw).oRot = 0#2 ∧
    (State.start c draw).oWidth.toNat = c.width ∧ (State.start c draw).oHeight.toNat = c.height ∧
    (State.start c draw).events = []

/-- The invariants hold after reset, for every instance and every draw, and so at `State.reset`. -/
def Obligations.ResetMeetsInvariants : Prop :=
  (∀ (c : Instance) (draw : Nat), (State.start c draw).Inv) ∧ State.reset.Inv

/-! Lifecycle commands (`43_config_lifecycle.md`). -/

/-- R146: `INIT` on an uninitialised instance with its memories: `READY` 1, `ROT` 0, response `(1, 0)`; `PB`, `POL` and every other
piece of state unchanged, no event. That `ROT` becomes 0 is the spec's G3. -/
def Obligations.InitBringsIntoService : Prop :=
  ∀ s : State, s.Uninitialised → s.cfg.allocOk = true →
    exec .init s = .next { s with
      ready := true
      rot := .r0
      rsps := s.rsps ++ [{ ok := true, val := false, why := none }] }

/-- R146, R163: `INIT` is rejected `AlreadyInit` when `READY = 1` and `AllocFail` when the memories are absent, with `(0, 0)` and no
change. -/
def Obligations.InitRejections : Prop :=
  (∀ s : State, s.Ready → exec .init s = .next { s with
    rsps := s.rsps ++ [{ ok := false, val := false, why := some .alreadyInit }] }) ∧
  (∀ s : State, s.Uninitialised → s.cfg.allocOk = false → exec .init s = .next { s with
    rsps := s.rsps ++ [{ ok := false, val := false, why := some .allocFail }] })

/-- R147: `SETROT r` on a ready instance writes `ROT` only and answers `(1, 0)`. -/
def Obligations.SetrotWritesRotationOnly : Prop :=
  ∀ (s : State) (r : Rot), s.Ready →
    exec (.setrot r) s = .next { s with
      rot := r
      rsps := s.rsps ++ [{ ok := true, val := false, why := none }] }

/-- R148, R90: the status ports show `ROT` and the logical width and height, which exchange with the parity of `ROT`; 16 bits hold
them. -/
def Obligations.StatusPortsShowLogicalSize : Prop :=
  ∀ s : State, s.oRot = s.rot.toBits ∧
    ((s.rot = .r0 ∨ s.rot = .r2) → s.oWidth.toNat = s.cfg.width ∧ s.oHeight.toNat = s.cfg.height) ∧
    ((s.rot = .r1 ∨ s.rot = .r3) → s.oWidth.toNat = s.cfg.height ∧ s.oHeight.toNat = s.cfg.width)

/-- R161, R166: every command but `INIT` is rejected `NotReady` while `READY = 0`, before its coordinates are looked at. -/
def Obligations.NotReadyRejectsAllButInit : Prop :=
  ∀ (s : State) (i : Instr), s.Uninitialised → i ≠ .init →
    exec i s = .next { s with rsps := s.rsps ++ [{ ok := false, val := false, why := some .notReady }] }

/-- R167, R160: whenever a step answers a command with `ok = 0`, the state is as before bit for bit but for the response itself (and
the word taken off the port), `val` is 0, and the reason is one of the four. The reason in the response is on no port (log 14). -/
def Obligations.RejectionChangesNothing : Prop :=
  ∀ (s t : State) (r : Response), step s = .next t → t.rsps = s.rsps ++ [r] → r.ok = false →
    t = { s with hostIn := s.hostIn.tail, rsps := t.rsps } ∧ r.val = false ∧ r.why ≠ none

/-! Pixel commands (`40_pixel_buffer_ops.md`). -/

/-- R90: the logical width and height under each rotation. -/
def Obligations.LogicalSizeOfRotation : Prop :=
  ∀ c : Instance,
    (logicalWidth c .r0 = c.width ∧ logicalHeight c .r0 = c.height) ∧
    (logicalWidth c .r1 = c.height ∧ logicalHeight c .r1 = c.width) ∧
    (logicalWidth c .r2 = c.width ∧ logicalHeight c .r2 = c.height) ∧
    (logicalWidth c .r3 = c.height ∧ logicalHeight c .r3 = c.width)

/-- R92: the four closed forms of the transform on integers, none of them negative, and every in-range logical coordinate goes to a
physical one inside the panel. -/
def Obligations.TransformClosedForms : Prop :=
  ∀ (c : Instance) (x y : Int),
    (InRange c .r0 x y → ((phys c .r0 x y).1 : Int) = x ∧ ((phys c .r0 x y).2 : Int) = y) ∧
    (InRange c .r1 x y → ((phys c .r1 x y).1 : Int) = c.width - 1 - y ∧ ((phys c .r1 x y).2 : Int) = x) ∧
    (InRange c .r2 x y → ((phys c .r2 x y).1 : Int) = c.width - 1 - x ∧ ((phys c .r2 x y).2 : Int) = c.height - 1 - y) ∧
    (InRange c .r3 x y → ((phys c .r3 x y).1 : Int) = y ∧ ((phys c .r3 x y).2 : Int) = c.height - 1 - x) ∧
    (∀ r : Rot, InRange c r x y → (phys c r x y).1 < c.width ∧ (phys c r x y).2 < c.height)

/-- R93: for each rotation the transform is a bijection from the logical rectangle onto the physical one, with inverse `logi`, whose
four closed forms on the physical rectangle are as the rule gives them; and distinct in-range logical coordinates address distinct bits of `PB`. -/
def Obligations.TransformIsBijection : Prop :=
  (∀ (c : Instance) (xp yp : Nat), xp < c.width → yp < c.height →
    logi c .r0 xp yp = ((xp : Int), (yp : Int)) ∧
    logi c .r1 xp yp = ((yp : Int), (c.width : Int) - 1 - xp) ∧
    logi c .r2 xp yp = ((c.width : Int) - 1 - xp, (c.height : Int) - 1 - yp) ∧
    logi c .r3 xp yp = ((c.height : Int) - 1 - yp, (xp : Int))) ∧
  (∀ (c : Instance) (r : Rot) (x y : Int), InRange c r x y →
    logi c r (phys c r x y).1 (phys c r x y).2 = (x, y)) ∧
  (∀ (c : Instance) (r : Rot) (xp yp : Nat), xp < c.width → yp < c.height →
    InRange c r (logi c r xp yp).1 (logi c r xp yp).2 ∧
    phys c r (logi c r xp yp).1 (logi c r xp yp).2 = (xp, yp)) ∧
  (∀ (c : Instance) (r : Rot) (x y x' y' : Int), InRange c r x y → InRange c r x' y' →
    pixelByte c r x y = pixelByte c r x' y' → pixelBit c r x y = pixelBit c r x' y' → x = x' ∧ y = y')

/-- R94, R41, R47: the buffer index of an in-range coordinate: `k = (yp * W + xp) div 8 < NBYTES`, which is `yp * BPL + xp div 8`, and
`n = xp mod 8 ≤ 7`; and the bit of the pixel in the byte is what `SETMASK[n]` masks. -/
def Obligations.BufferIndexInsideBuffer : Prop :=
  ∀ (c : Instance) (r : Rot) (x y : Int), InRange c r x y →
    pixelByte c r x y = ((phys c r x y).2 * c.width + (phys c r x y).1) / 8 ∧
    pixelByte c r x y = (phys c r x y).2 * bpl c + (phys c r x y).1 / 8 ∧
    pixelByte c r x y < nbytes c ∧
    pixelBit c r x y = (phys c r x y).1 % 8 ∧ pixelBit c r x y ≤ 7 ∧
    (∀ byte : Byte, byte &&& setMask (pixelBit c r x y) ≠ 0#8 ↔ byte.getLsbD (pixelBit c r x y) = true)

/-- R31: `SETMASK[n] = 2^n` and `CLRMASK[n] = 255 - 2^n` for n = 0 to 7. -/
def Obligations.MasksArePowersOfTwo : Prop :=
  ∀ n, n < 8 → (setMask n).toNat = 2 ^ n ∧ (clrMask n).toNat = 255 - 2 ^ n ∧ clrMask n = ~~~ setMask n

/-- R95: `SETPIX` at an in-range coordinate of a ready instance answers `(1, 0)` and writes bit `n` of byte `k`: 1 for every colour but
0. The other seven bits of the byte, every other byte, and everything that is not `PB` keep their values. -/
def Obligations.SetpixWritesOneBit : Prop :=
  ∀ (s : State) (x y : Int) (colour : Nat), s.Ready → InRange s.cfg s.rot x y →
    ∃ t : State, exec (.setpix x y colour) s = .next t ∧
      t = { s with pb := t.pb, rsps := s.rsps ++ [{ ok := true, val := false, why := none }] } ∧
      ((t.pbByte (pixelByte s.cfg s.rot x y)).getLsbD (pixelBit s.cfg s.rot x y) = decide (colour ≠ 0)) ∧
      (∀ j, j < 8 → j ≠ pixelBit s.cfg s.rot x y →
        (t.pbByte (pixelByte s.cfg s.rot x y)).getLsbD j = (s.pbByte (pixelByte s.cfg s.rot x y)).getLsbD j) ∧
      (∀ a, a ≠ pixelByte s.cfg s.rot x y → t.pbByte a = s.pbByte a)

/-- R91, R162: out of range, `SETPIX` changes nothing and `GETPIX` reads dark; neither is a rejection. -/
def Obligations.OutOfRangeIsIgnored : Prop :=
  ∀ (s : State) (x y : Int) (colour : Nat), s.Ready → ¬ InRange s.cfg s.rot x y →
    exec (.setpix x y colour) s = .next { s with rsps := s.rsps ++ [{ ok := true, val := false, why := none }] } ∧
    exec (.getpix x y) s = .next { s with rsps := s.rsps ++ [{ ok := true, val := false, why := none }] }

/-- R96: `GETPIX` at an in-range coordinate of a ready instance answers `(1, v)`, `v` the pixel's bit, and changes nothing. -/
def Obligations.GetpixReadsTheBit : Prop :=
  ∀ (s : State) (x y : Int), s.Ready → InRange s.cfg s.rot x y →
    exec (.getpix x y) s = .next { s with
      rsps := s.rsps ++ [{ ok := true,
                           val := (s.pbByte (pixelByte s.cfg s.rot x y)).getLsbD (pixelBit s.cfg s.rot x y),
                           why := none }] }

/-- R98: the round-trip law: `GETPIX` after `SETPIX` at the same in-range coordinate answers the pixel value written, under every
rotation. -/
def Obligations.SetpixThenGetpix : Prop :=
  ∀ (s : State) (x y : Int) (colour : Nat), s.Ready → InRange s.cfg s.rot x y →
    ∃ t u : State, exec (.setpix x y colour) s = .next t ∧ exec (.getpix x y) t = .next u ∧
      u.rsps = t.rsps ++ [{ ok := true, val := decide (colour ≠ 0), why := none }]

/-- R99: `SETPIX` at one in-range coordinate does not change what `GETPIX` answers at any other; and out of range it leaves the buffer
unchanged and `GETPIX` answers 0. -/
def Obligations.SetpixDoesNotInterfere : Prop :=
  (∀ (s : State) (x y x' y' : Int) (colour : Nat), s.Ready → InRange s.cfg s.rot x y → InRange s.cfg s.rot x' y' →
    (x, y) ≠ (x', y') →
    ∃ (t u v : State) (seen : Bool), exec (.setpix x y colour) s = .next t ∧
      exec (.getpix x' y') s = .next u ∧ u.rsps = s.rsps ++ [{ ok := true, val := seen, why := none }] ∧
      exec (.getpix x' y') t = .next v ∧ v.rsps = t.rsps ++ [{ ok := true, val := seen, why := none }]) ∧
  (∀ (s : State) (x y : Int) (colour : Nat), s.Ready → ¬ InRange s.cfg s.rot x y →
    ∃ t u : State, exec (.setpix x y colour) s = .next t ∧ t.pb = s.pb ∧
      exec (.getpix x y) s = .next u ∧ u.rsps = s.rsps ++ [{ ok := true, val := false, why := none }])

/-- R97: `CLRBUF` on a ready instance sets every byte of `PB` to 0xFF, answers `(1, 0)`, and changes nothing else: no event, `POL` and
`ROT` as they were. -/
def Obligations.ClrbufFillsWithLight : Prop :=
  ∀ s : State, s.Ready →
    ∃ t : State, exec .clrbuf s = .next t ∧
      t = { s with pb := t.pb, rsps := s.rsps ++ [{ ok := true, val := false, why := none }] } ∧
      (∀ a, a < nbytes s.cfg → t.pbByte a = 0xFF#8) ∧
      (∀ a, ¬ a < nbytes s.cfg → t.pbByte a = s.pbByte a)

/-- R97: after `CLRBUF` every pixel reads as 1 at every in-range coordinate, for every rotation, and every other coordinate as 0. -/
def Obligations.AfterClearEveryPixelIsLight : Prop :=
  ∀ (s : State) (r : Rot) (x y : Int), s.Ready →
    ∃ t u v : State, exec .clrbuf s = .next t ∧ exec (.setrot r) t = .next u ∧ exec (.getpix x y) u = .next v ∧
      v.rsps = u.rsps ++ [{ ok := true, val := decide (InRange s.cfg r x y), why := none }]

/-- R100, R93: the bit of a pixel under rotation `r₁` is, under `r₂`, the bit of `logi(r₂, phys(r₁, x, y))`, which is in range, and of no
other coordinate. So after `SETPIX` and then `SETROT r₂`, `GETPIX` answers the pixel value written at that coordinate, and at every
other in-range coordinate what its bit held before the `SETPIX`. -/
def Obligations.RotationIsAView : Prop :=
  (∀ (c : Instance) (r₁ r₂ : Rot) (x y : Int), InRange c r₁ x y →
    InRange c r₂ (logi c r₂ (phys c r₁ x y).1 (phys c r₁ x y).2).1 (logi c r₂ (phys c r₁ x y).1 (phys c r₁ x y).2).2 ∧
    (∀ x' y' : Int, InRange c r₂ x' y' →
      ((pixelByte c r₂ x' y' = pixelByte c r₁ x y ∧ pixelBit c r₂ x' y' = pixelBit c r₁ x y) ↔
        (x', y') = logi c r₂ (phys c r₁ x y).1 (phys c r₁ x y).2))) ∧
  (∀ (s : State) (x y x' y' : Int) (colour : Nat) (r₂ : Rot), s.Ready → InRange s.cfg s.rot x y → InRange s.cfg r₂ x' y' →
    ∃ t u v : State, exec (.setpix x y colour) s = .next t ∧ exec (.setrot r₂) t = .next u ∧
      exec (.getpix x' y') u = .next v ∧
      v.rsps = u.rsps ++ [{ ok := true,
                            val := if (x', y') = logi s.cfg r₂ (phys s.cfg s.rot x y).1 (phys s.cfg s.rot x y).2
                                   then decide (colour ≠ 0)
                                   else (s.pbByte (pixelByte s.cfg r₂ x' y')).getLsbD (pixelBit s.cfg r₂ x' y'),
                            why := none }])

/-! The frame (`41_frame_encoder.md` R110 to R120). -/

/-- R112: the decomposition of a frame position: the header first, the terminator last, `LINE < H` and `COL < BPL` between, and no
two positions alike. -/
def Obligations.PositionDecomposition : Prop :=
  ∀ (c : Instance) (p : Nat), p < frameLen c →
    (phaseOf c p = .hdr ↔ p = 0) ∧
    (phaseOf c p = .term ↔ p = frameLen c - 1) ∧
    (∀ line, phaseOf c p = .addr line → line < c.height ∧ p = 1 + line * (1 + bpl c)) ∧
    (∀ line col, phaseOf c p = .data line col → line < c.height ∧ col < bpl c ∧ p = 1 + line * (1 + bpl c) + 1 + col) ∧
    (∀ q, q < frameLen c → phaseOf c p = phaseOf c q → p = q)

/-- R113, R70, R114 to R116: the frame is the header, the records of line 0 to line `H - 1` in order, and one terminator 0x00. -/
def Obligations.FrameIsHeaderRecordsTerminator : Prop :=
  ∀ s : State,
    s.frame = [s.cfg.cmdWrite ||| polByte s.cfg s.pol] ++
      ((List.range s.cfg.height).map (fun i =>
        rev (i + 1) :: (List.range (bpl s.cfg)).map (fun j => s.pbByte (i * bpl s.cfg + j)))).flatten ++ [0x00#8]

/-- R76, R6: the length of the frame, in its three forms. -/
def Obligations.FrameLength : Prop :=
  ∀ s : State, s.frame.length = 1 + s.cfg.height * (1 + s.cfg.width / 8) + 1 ∧
    s.frame.length = nbytes s.cfg + s.cfg.height + 2 ∧
    nbytes s.cfg * 8 = s.cfg.width * s.cfg.height

/-- R30, R73: `REV[n]` is the bit reversal of `n`, and reversing twice gives `n` back. -/
def Obligations.ReversalTableIsInvolution : Prop :=
  ∀ n, n < 256 → (∀ k, k < 8 → (rev n).getLsbD k = (BitVec.ofNat 8 n).getLsbD (7 - k)) ∧ (rev (rev n).toNat).toNat = n

/-- R136, R141, R9: the headers of two frames of opposite polarity differ exactly in the polarity bit, and reading a header back
gives the polarity. -/
def Obligations.HeadersDifferInPolarityBit : Prop :=
  ∀ (c : Instance) (pol : Bool),
    headerByte c pol ^^^ headerByte c (!pol) = c.polMask ∧ (headerByte c pol &&& c.polMask != 0#8) = pol

/-- R118, R119, R120, R177: one refresh is one transaction with chip-select inside it; it has one send with `STAGED` and `H + 2` with
`STREAMING`, none of them empty; and the bytes sent are the frame whatever the strategy. -/
def Obligations.RefreshEventsCarryTheFrame : Prop :=
  ∀ s : State,
    (∃ sends : List (List Byte),
      s.refreshEvents = [.txnBegin s.cfg.busCfg, .csHigh] ++ sends.map TxEvent.send ++ [.csLow, .txnEnd] ∧
      (s.cfg.strategy = .staged → sends.length = 1) ∧
      (s.cfg.strategy = .streaming → sends.length = s.cfg.height + 2) ∧
      (∀ bytes ∈ sends, bytes ≠ [])) ∧
    flattenEvents s.refreshEvents = s.frame

/-- R117: a physical pixel and the polarity are read back from a frame at the places the rule names, and a logical pixel under
rotation `r` at its physical place: each is what the frame was made from. -/
def Obligations.FrameReadsBack : Prop :=
  ∀ s : State,
    s.pol = decide (s.frame.getD 0 0x00#8 &&& s.cfg.polMask ≠ 0#8) ∧
    (∀ xp yp : Nat, xp < s.cfg.width → yp < s.cfg.height →
      (s.frame.getD (1 + yp * (1 + bpl s.cfg) + 1 + xp / 8) 0x00#8).getLsbD (xp % 8) =
        (s.pbByte (byteAddr s.cfg xp yp)).getLsbD (bitPos xp)) ∧
    (∀ (r : Rot) (x y : Int), InRange s.cfg r x y →
      pixelOfFrame s.cfg s.frame (phys s.cfg r x y).1 (phys s.cfg r x y).2 =
        (s.pbByte (pixelByte s.cfg r x y)).getLsbD (pixelBit s.cfg r x y))

/-- R113, R22, R100: the frame depends on `PB`, `POL` and the parameters only: two states that agree on them send the same events,
whatever their rotation and everything else. -/
def Obligations.FrameDependsOnBufferAndPolarityOnly : Prop :=
  ∀ s t : State, s.cfg = t.cfg → s.pol = t.pol → (∀ a, a < nbytes s.cfg → s.pbByte a = t.pbByte a) →
    s.frame = t.frame ∧ s.refreshEvents = t.refreshEvents

/-! Refreshing (`41_frame_encoder.md` R121 to R126). -/

/-- R123: `REFRESH` on a ready instance is accepted by the start step: `BUSY`, `TXN`, `SCS` 1, `POS` 0, the two opening events; with
`STAGED` every byte of `EF` holds the frame, with `STREAMING` `EF` is untouched; no response yet; all else unchanged. -/
def Obligations.RefreshStarts : Prop :=
  ∀ s : State, s.Ready →
    ∃ t : State, exec .refresh s = .next t ∧
      t = { s with
        busy := true, txn := true, scs := true, pos := 0, chunk := [], ef := t.ef
        events := s.events ++ [.txnBegin s.cfg.busCfg, .csHigh] } ∧
      (s.cfg.strategy = .staged → ∀ p, p < frameLen s.cfg → t.efByte p = s.frameByte p) ∧
      (s.cfg.strategy = .streaming → t.ef = s.ef)

/-- R122, R123: `CLRREF` on a ready instance sets every byte of `PB` to 0xFF and takes the start step of a refresh of the cleared
buffer. -/
def Obligations.ClrrefClearsAndStarts : Prop :=
  ∀ s : State, s.Ready →
    ∃ t : State, exec .clrref s = .next t ∧
      t = { s with
        busy := true, txn := true, scs := true, pos := 0, chunk := [], ef := t.ef, pb := t.pb
        events := s.events ++ [.txnBegin s.cfg.busCfg, .csHigh] } ∧
      (∀ a, a < nbytes s.cfg → t.pbByte a = 0xFF#8) ∧
      (∀ a, ¬ a < nbytes s.cfg → t.pbByte a = s.pbByte a) ∧
      (s.cfg.strategy = .staged → ∀ p, p < frameLen s.cfg → t.efByte p = t.frameByte p) ∧
      (s.cfg.strategy = .streaming → t.ef = s.ef)

/-- R122: `CLRREF` is `CLRBUF` followed by `REFRESH`, with one response instead of two. -/
def Obligations.ClrrefIsClrbufThenRefresh : Prop :=
  ∀ s : State, s.Ready →
    ∃ t u : State, exec .clrbuf s = .next t ∧ exec .refresh t = .next u ∧ exec .clrref s = .next { u with rsps := s.rsps }

/-- R124: a byte step that the transport takes: `POS` advances by 1, the byte offered joins the current send, and the send is
emitted when the byte is flagged `last`; nothing else changes but the moment of offer, which has passed. The moments of offer and
the bytes of the open send are the model's fields (log 8, log 9). -/
def Obligations.ByteStepHandsOverOneByte : Prop :=
  ∀ s : State, s.busy = true → s.NoRst → s.pos < frameLen s.cfg → s.txReady = true →
    s.txValid = true ∧
    step s = .next { s with
      pos := s.pos + 1
      txIn := s.txIn.tail
      chunk := if s.txLast then [] else s.chunk ++ [s.txData]
      events := if s.txLast then s.events ++ [.send (s.chunk ++ [s.txData])] else s.events }

/-- R124, R119, V50: where `last` is set: the terminator with `STAGED`; the header, the last data byte of each line and the terminator
with `STREAMING`. -/
def Obligations.LastFlagsEndTheChunks : Prop :=
  ∀ (c : Instance) (p : Nat), p < frameLen c →
    (c.strategy = .staged → (isLast c p = true ↔ p = frameLen c - 1)) ∧
    (c.strategy = .streaming →
      (isLast c p = true ↔ (p = 0 ∨ p = frameLen c - 1 ∨ ∃ line, line < c.height ∧ p = (line + 1) * (1 + bpl c))))

/-- R124, R181: in every state that meets the invariants the byte on offer is `frame_byte(PB, POL, POS)`, whether it comes from `EF` or
from `PB`. -/
def Obligations.OfferedByteIsFrameByte : Prop :=
  ∀ s : State, s.Inv → s.txValid = true → s.txData = s.frameByte s.pos

/-- R196, R124: while the transport does not take the byte the block waits, offering the same byte; if it never takes one, the block
stays in the refreshing state for ever: no event, no response, no toggle, and the run is not over. The stall as a step that waits is
the model's (log 8). -/
def Obligations.StalledTransportHangsTheRefresh : Prop :=
  (∀ s : State, s.busy = true → s.NoRst → s.pos < frameLen s.cfg → s.txReady = false →
    step s = .next { s with txIn := s.txIn.tail }) ∧
  (∀ (s : State) (n : Nat), s.busy = true → s.NoRst → s.pos < frameLen s.cfg → s.transportStalled →
    core.run n s = .next { s with txIn := s.txIn.drop n } ∧
    ({ s with txIn := s.txIn.drop n } : State).txData = s.txData ∧
    ({ s with txIn := s.txIn.drop n } : State).runOver = false)

/-- R125: the finish step: `CsLow`, `TxnEnd`, the polarity toggled, `POS` 0, `BUSY` 0, response `(1, 0)`; all else unchanged. That
no `rst` is applied is the model's premise (log 6, log 7). -/
def Obligations.FinishStep : Prop :=
  ∀ s : State, s.busy = true → s.NoRst → s.pos = frameLen s.cfg →
    step s = .next { s with
      scs := false, txn := false, pol := !s.pol, pos := 0, busy := false
      events := s.events ++ [.csLow, .txnEnd]
      rsps := s.rsps ++ [{ ok := true, val := false, why := none }] }

/-- R126, R121, R122: the two forms agree. With a transport that takes every byte at once, the start step, `FRAME_LEN` byte steps and
the finish step of `REFRESH` emit exactly `refresh_events(PB, POL)` and leave the state R121 leaves, and those of `CLRREF` do the
same for the buffer with every byte 0xFF. The transport's readiness as fields is the model's (log 8), and so is the refresh in
steps of `core.run` (log 12). -/
def Obligations.RefreshRunsToItsEnd : Prop :=
  ∀ s : State, s.Ready → s.NoRst → s.txIn = [] → s.txRest = true →
    (∃ t : State, exec .refresh s = .next t ∧
      core.run (frameLen s.cfg + 1) t = .next { s with
        ef := t.ef
        chunk := []
        pol := !s.pol
        scs := false, txn := false, pos := 0
        events := s.events ++ s.refreshEvents
        rsps := s.rsps ++ [{ ok := true, val := false, why := none }] }) ∧
    (∃ t : State, exec .clrref s = .next t ∧
      (∀ a, a < nbytes s.cfg → t.pbByte a = 0xFF#8) ∧
      (∀ a, ¬ a < nbytes s.cfg → t.pbByte a = s.pbByte a) ∧
      core.run (frameLen s.cfg + 1) t = .next { s with
        pb := t.pb
        ef := t.ef
        chunk := []
        pol := !s.pol
        scs := false, txn := false, pos := 0
        events := s.events ++ State.refreshEvents { s with pb := t.pb }
        rsps := s.rsps ++ [{ ok := true, val := false, why := none }] })

/-- R196, R202, R126: whatever finite delays the transport makes, a refresh, of `REFRESH` or of `CLRREF`, ends once the transport takes
every byte eventually, with the same events and the same state as without delays; of the transport's moments a suffix is left.
Fairness as a list of moments followed by a constant level is the model's (log 8). -/
def Obligations.RefreshEndsUnderFairness : Prop :=
  ∀ s : State, s.Ready → s.NoRst → s.txRest = true →
    (∃ (t : State) (n : Nat) (left : List TxMoment), exec .refresh s = .next t ∧ left <:+ s.txIn ∧
      core.run n t = .next { s with
        ef := t.ef
        chunk := []
        pol := !s.pol
        scs := false, txn := false, pos := 0
        txIn := left
        events := s.events ++ s.refreshEvents
        rsps := s.rsps ++ [{ ok := true, val := false, why := none }] }) ∧
    (∃ (t : State) (n : Nat) (left : List TxMoment), exec .clrref s = .next t ∧ left <:+ s.txIn ∧
      (∀ a, a < nbytes s.cfg → t.pbByte a = 0xFF#8) ∧
      (∀ a, ¬ a < nbytes s.cfg → t.pbByte a = s.pbByte a) ∧
      core.run n t = .next { s with
        pb := t.pb
        ef := t.ef
        chunk := []
        pol := !s.pol
        scs := false, txn := false, pos := 0
        txIn := left
        events := s.events ++ State.refreshEvents { s with pb := t.pb }
        rsps := s.rsps ++ [{ ok := true, val := false, why := none }] })

/-- R180: the bytes of the receive half affect nothing: two states that differ only in them step to states that differ only in them.
The received bytes as a field is the model's (log 8). -/
def Obligations.ReceivedBytesAffectNothing : Prop :=
  ∀ (s t : State) (moments : List TxMoment),
    moments.map TxMoment.ready = s.txIn.map TxMoment.ready → step s = .next t →
    ∃ moments' : List TxMoment, moments'.map TxMoment.ready = t.txIn.map TxMoment.ready ∧
      step { s with txIn := moments } = .next { t with txIn := moments' }

/-! Invariants and whole-machine rules. -/

/-- R36, R142, R118: every step keeps the invariants, from every state that meets them. The last two invariants, on `EF` and the
open send, follow from R118 and R124. -/
def Obligations.StepKeepsInvariants : Prop :=
  ∀ s t : State, s.Inv → step s = .next t → t.Inv

/-- R47, R36 (a), R160: from a state that meets the invariants no step faults. The faults are the model's (log 11). -/
def Obligations.NoFaultFromInvariants : Prop :=
  ∀ (s : State) (f : Fault), s.Inv → step s ≠ .fault f

/-- R138, R139, R140: `POL` changes in the finish step of a refresh and nowhere else, by exactly one toggle. -/
def Obligations.PolarityChangesOnlyAtFinish : Prop :=
  ∀ s t : State, step s = .next t →
    (t.pol ≠ s.pol ↔ s.busy = true ∧ s.pos = frameLen s.cfg) ∧
    (s.busy = true ∧ s.pos = frameLen s.cfg → t.pol = !s.pol)

/-- R6, R150, R23, R145: no step changes a parameter; `READY` once 1 stays 1; and without its memories an instance is never ready. -/
def Obligations.ParametersAndReadyAreStable : Prop :=
  ∀ s t : State, step s = .next t →
    t.cfg = s.cfg ∧ (s.ready = true → t.ready = true) ∧
    (s.ready = false → s.cfg.allocOk = false → t.ready = false)

/-- R28, R35: `PB` is changed by an accepted `SETPIX`, `CLRBUF` or `CLRREF` and by nothing else. -/
def Obligations.BufferChangesOnlyByWritingCommands : Prop :=
  ∀ s t : State, step s = .next t → t.pb ≠ s.pb →
    s.busy = false ∧ s.ready = true ∧
    ∃ (cw : CmdWord) (rest : List HostAct) (i : Instr), s.hostIn = .word cw :: rest ∧ decode cw = .ok i ∧
      ((∃ x y colour, i = .setpix x y colour ∧ InRange s.cfg s.rot x y) ∨ i = .clrbuf ∨ i = .clrref)

/-- R67, D31: exactly one response per accepted word, in order: an accepted word is answered at once unless it starts a refresh,
which its finish step answers; no other step answers; and no response is ever taken back. The command port as a list of the host's
acts is the model's (log 6). -/
def Obligations.OneResponsePerWord : Prop :=
  ∀ s t : State, step s = .next t →
    (s.busy = true →
      t.rsps = s.rsps ++ (if s.pos = frameLen s.cfg then [{ ok := true, val := false, why := none }] else [])) ∧
    (∀ (cw : CmdWord) (rest : List HostAct), s.busy = false → s.hostIn = .word cw :: rest → t.hostIn = rest ∧
      ((t.busy = false ∧ ∃ r : Response, t.rsps = s.rsps ++ [r]) ∨
       (t.busy = true ∧ t.rsps = s.rsps ∧ (decode cw = .ok .refresh ∨ decode cw = .ok .clrref)))) ∧
    (s.busy = false → (∀ (cw : CmdWord) (rest : List HostAct), s.hostIn ≠ .word cw :: rest) → t.rsps = s.rsps)

/-- Two memories in canonical form that hold the same written bytes are the same data, so equal memories are equal states. The
canonical form is the model's (log 3). -/
def Obligations.EqualMemoriesAreEqualData : Prop :=
  ∀ m₁ m₂ : Memory, Memory.wf m₁ = true → Memory.wf m₂ = true →
    (∀ a, Memory.get? m₁ a = Memory.get? m₂ a) → m₁ = m₂
end

