-- ==== Sys2Proof/Laws/Encoding.lean ====
section
/-! SUPPORT. The fields of a packed command word, and its match against a row of the opcode map. -/

namespace Sys2Proof

/-- When a coordinate fits its field (R64). -/
theorem coordFits_iff (v : Int) : coordFits v = true ↔ -32768 ≤ v ∧ v ≤ 32767 := by
  unfold coordFits; simp

/-- When a colour fits its field (R65). -/
theorem colourFits_iff (c : Nat) : colourFits c = true ↔ c ≤ 65535 := by
  unfold colourFits; simp

/-- Bit `k` of a packed word, field by field (R61). -/
theorem getLsbD_packWord (op : Byte) (a b c : Field) (k : Nat) :
    (packWord op a b c).getLsbD k =
      if k < 16 then c.getLsbD k else if k < 32 then b.getLsbD (k - 16)
      else if k < 48 then a.getLsbD (k - 32) else op.getLsbD (k - 48) := by
  simp only [packWord, BitVec.getLsbD_append]
  repeat' split
  all_goals first | omega | rfl

/-- The opcode of a packed word (R61). -/
theorem opField_packWord (op : Byte) (a b c : Field) : opField (packWord op a b c) = op := by
  apply BitVec.eq_of_getLsbD_eq
  intro k hk
  simp [opField, getLsbD_packWord, hk, show ¬ 48 + k < 16 by omega,
    show ¬ 48 + k < 32 by omega, show ¬ 48 + k < 48 by omega]

/-- Operand `a` of a packed word (R61). -/
theorem aField_packWord (op : Byte) (a b c : Field) : aField (packWord op a b c) = a := by
  apply BitVec.eq_of_getLsbD_eq
  intro k hk
  simp [aField, getLsbD_packWord, hk, show ¬ 32 + k < 16 by omega,
    show ¬ 32 + k < 32 by omega, show 32 + k < 48 by omega]

/-- Operand `b` of a packed word (R61). -/
theorem bField_packWord (op : Byte) (a b c : Field) : bField (packWord op a b c) = b := by
  apply BitVec.eq_of_getLsbD_eq
  intro k hk
  simp [bField, getLsbD_packWord, hk, show 16 + k < 32 by omega]

/-- Operand `c` of a packed word (R61). -/
theorem cField_packWord (op : Byte) (a b c : Field) : cField (packWord op a b c) = c := by
  apply BitVec.eq_of_getLsbD_eq
  intro k hk
  simp [cField, getLsbD_packWord, hk]

/-- Two words are equal when their four fields are (R61). -/
theorem cmdWord_ext {v w : CmdWord} (ho : opField v = opField w) (ha : aField v = aField w)
    (hb : bField v = bField w) (hc : cField v = cField w) : v = w := by
  apply BitVec.eq_of_getLsbD_eq
  intro k hk
  rcases Nat.lt_or_ge k 16 with h | h
  · have := congrArg (fun f => f.getLsbD k) hc
    simpa [cField, BitVec.getLsbD_extractLsb', h] using this
  rcases Nat.lt_or_ge k 32 with h2 | h2
  · have := congrArg (fun f => f.getLsbD (k - 16)) hb
    simpa [bField, BitVec.getLsbD_extractLsb', show k - 16 < 16 by omega, show 16 + (k - 16) = k by omega] using this
  rcases Nat.lt_or_ge k 48 with h3 | h3
  · have := congrArg (fun f => f.getLsbD (k - 32)) ha
    simpa [aField, BitVec.getLsbD_extractLsb', show k - 32 < 16 by omega, show 32 + (k - 32) = k by omega] using this
  · have := congrArg (fun f => f.getLsbD (k - 48)) ho
    simpa [opField, BitVec.getLsbD_extractLsb', show k - 48 < 8 by omega, show 48 + (k - 48) = k by omega] using this

/-- Masking acts field by field. -/
theorem packWord_and (op op' : Byte) (a a' b b' c c' : Field) :
    packWord op a b c &&& packWord op' a' b' c' = packWord (op &&& op') (a &&& a') (b &&& b') (c &&& c') := by
  apply BitVec.eq_of_getLsbD_eq
  intro k hk
  simp only [BitVec.getLsbD_and, getLsbD_packWord]
  repeat' split
  all_goals rfl

/-- The row of a command. -/
def opcodeOf : Instr → Opcode
  | .init => .init
  | .setrot _ => .setrot
  | .setpix _ _ _ => .setpix
  | .getpix _ _ => .getpix
  | .clrbuf => .clrbuf
  | .clrref => .clrref
  | .refresh => .refresh

end Sys2Proof
end

