-- ==== Sys2Proof/Laws/Geometry.lean ====
section
/-! SUPPORT. The facts every instance carries (R7, R8, R9), and its derived constants. -/

namespace Sys2Proof.Machine

/-- The legality check, taken apart. -/
theorem legal_facts (c : Instance) :
    (((((c.width % 8 = 0 ∧ 8 ≤ c.width) ∧ c.width ≤ 32760) ∧ 1 ≤ c.height) ∧ c.height ≤ 255) ∧
      c.cmdWrite &&& c.polMask = 0#8) ∧ oneBitSet c.polMask = true := by
  have h := c.isLegal
  simpa only [Params.legal, Bool.and_eq_true, decide_eq_true_eq, beq_iff_eq] using h

/-- `W` is a whole number of bytes (R7). -/
theorem width_eq (c : Instance) : c.width = 8 * bpl c := by
  have h := (legal_facts c).1.1.1.1.1
  unfold bpl; omega

/-- `8 ≤ W` (R7). -/
theorem width_ge (c : Instance) : 8 ≤ c.width := (legal_facts c).1.1.1.1.1.2

/-- `W ≤ 32760` (R7). -/
theorem width_le (c : Instance) : c.width ≤ 32760 := (legal_facts c).1.1.1.1.2

/-- `1 ≤ H` (R8). -/
theorem height_pos (c : Instance) : 1 ≤ c.height := (legal_facts c).1.1.1.2

/-- `H ≤ 255` (R8). -/
theorem height_le (c : Instance) : c.height ≤ 255 := (legal_facts c).1.1.2

/-- `CMD_WRITE & POL_MASK = 0` (R9). -/
theorem cmdWrite_and_polMask (c : Instance) : c.cmdWrite &&& c.polMask = 0#8 := (legal_facts c).1.2

/-- `POL_MASK` has exactly one bit set, so it is not zero (R9). -/
theorem polMask_ne_zero (c : Instance) : c.polMask ≠ 0#8 := by
  intro h
  have h1 := (legal_facts c).2
  rw [h] at h1
  exact absurd h1 (by decide)

/-- A line has at least one byte. -/
theorem bpl_pos (c : Instance) : 1 ≤ bpl c := by
  have h := width_ge c
  unfold bpl; omega

/-- A frame has at least its header and its terminator. -/
theorem frameLen_ge (c : Instance) : 2 ≤ frameLen c := by unfold frameLen; omega

/-- The first position is the header (R112). -/
theorem phaseOf_zero (c : Instance) : phaseOf c 0 = .hdr := by simp [phaseOf]

/-- The last position is the terminator (R112). -/
theorem phaseOf_last (c : Instance) : phaseOf c (frameLen c - 1) = .term := by
  have h := frameLen_ge c
  simp [phaseOf, show frameLen c - 1 ≠ 0 by omega]

end Sys2Proof.Machine
end

