-- ==== Sys2Proof/Laws/Memory.lean ====
section
/-! SUPPORT. The laws of byte memory: a read after a write, and that every memory operation keeps the canonical form and
stays inside an address space. -/

namespace Sys2Proof.Machine

/-- A read after a write: the byte written at its address, any other address as before. -/
theorem Memory.get?_write (m : Memory) (a : Nat) (v : Byte) (x : Nat) :
    Memory.get? (Memory.write m a v) x = if x = a then some v else Memory.get? m x := by
  induction m with
  | nil => by_cases h : x = a <;> simp [Memory.write, Memory.get?, h]
  | cons cell m ih =>
    obtain ⟨b, w⟩ := cell
    unfold Memory.write
    by_cases hlt : a < b
    · by_cases hx : x = a <;> simp [hlt, Memory.get?, hx]
    · by_cases hab : a = b
      · subst hab
        by_cases hx : x = a <;> simp [Memory.get?, hx]
      · by_cases hx : x = a
        · subst hx; simp [hlt, hab, Memory.get?, ih]
        · simp [hlt, hab, Memory.get?, ih, hx]

/-- A read after writing addresses 0 to `n - 1`. -/
theorem Memory.get?_writeAll (m : Memory) (f : Nat → Byte) (n x : Nat) :
    Memory.get? (Memory.writeAll m f n) x = if x < n then some (f x) else Memory.get? m x := by
  induction n with
  | zero => simp [Memory.writeAll]
  | succ n ih =>
    simp only [Memory.writeAll, Memory.get?_write, ih]
    by_cases h : x = n
    · simp [h]
    · by_cases h' : x < n
      · simp [h, h', Nat.lt_succ_of_lt h']
      · simp [h, h', show ¬ x < n + 1 by omega]

/-- A lower bound on every address, kept by a write at or above it. -/
theorem Memory.all_gt_write (m : Memory) (lo a : Nat) (v : Byte) (h : lo < a)
    (hm : m.all (fun cell => decide (lo < cell.1)) = true) :
    (Memory.write m a v).all (fun cell => decide (lo < cell.1)) = true := by
  induction m with
  | nil => simp [Memory.write, h]
  | cons cell m ih =>
    obtain ⟨b, w⟩ := cell
    simp only [List.all_cons, Bool.and_eq_true, decide_eq_true_eq] at hm
    unfold Memory.write
    split
    · simp only [List.all_cons, Bool.and_eq_true, decide_eq_true_eq]
      exact ⟨h, hm.1, hm.2⟩
    · split
      · simp only [List.all_cons, Bool.and_eq_true, decide_eq_true_eq]
        exact ⟨h, hm.2⟩
      · simp only [List.all_cons, Bool.and_eq_true, decide_eq_true_eq]
        exact ⟨hm.1, ih hm.2⟩

/-- A write keeps the canonical form. -/
theorem Memory.wf_write (m : Memory) (a : Nat) (v : Byte) (hm : Memory.wf m = true) :
    Memory.wf (Memory.write m a v) = true := by
  induction m with
  | nil => simp [Memory.write, Memory.wf]
  | cons cell m ih =>
    obtain ⟨b, w⟩ := cell
    simp only [Memory.wf, Bool.and_eq_true] at hm
    unfold Memory.write
    split
    · rename_i hlt
      simp only [Memory.wf, List.all_cons, Bool.and_eq_true, decide_eq_true_eq]
      refine ⟨⟨hlt, ?_⟩, hm⟩
      have := hm.1
      simp only [List.all_eq_true, decide_eq_true_eq] at this ⊢
      exact fun c hc => Nat.lt_trans hlt (this c hc)
    · split
      · rename_i hab; subst hab
        simpa [Memory.wf, Bool.and_eq_true] using hm
      · rename_i hlt hab
        simp only [Memory.wf, Bool.and_eq_true]
        exact ⟨Memory.all_gt_write m b a v (by omega) hm.1, ih hm.2⟩

/-- Writing a run of addresses keeps the canonical form. -/
theorem Memory.wf_writeAll (m : Memory) (f : Nat → Byte) (n : Nat) (hm : Memory.wf m = true) :
    Memory.wf (Memory.writeAll m f n) = true := by
  induction n with
  | zero => exact hm
  | succ n ih => exact Memory.wf_write _ _ _ ih

/-- A write inside an address space keeps the memory inside it. -/
theorem Memory.within_write (m : Memory) (a : Nat) (v : Byte) (n : Nat) (ha : a < n)
    (hm : Memory.within m n = true) : Memory.within (Memory.write m a v) n = true := by
  induction m with
  | nil => simp [Memory.write, Memory.within, ha]
  | cons cell m ih =>
    obtain ⟨b, w⟩ := cell
    simp only [Memory.within, List.all_cons, Bool.and_eq_true, decide_eq_true_eq] at hm ih ⊢
    unfold Memory.write
    split
    · simp only [List.all_cons, Bool.and_eq_true, decide_eq_true_eq]; exact ⟨ha, hm.1, hm.2⟩
    · split
      · simp only [List.all_cons, Bool.and_eq_true, decide_eq_true_eq]; exact ⟨ha, hm.2⟩
      · simp only [List.all_cons, Bool.and_eq_true, decide_eq_true_eq]; exact ⟨hm.1, ih hm.2⟩

/-- Writing the first `k ≤ n` addresses keeps the memory inside the address space of `n` bytes. -/
theorem Memory.within_writeAll (m : Memory) (f : Nat → Byte) (k n : Nat) (hk : k ≤ n)
    (hm : Memory.within m n = true) : Memory.within (Memory.writeAll m f k) n = true := by
  induction k with
  | zero => exact hm
  | succ k ih => exact Memory.within_write _ _ _ _ (by omega) (ih (by omega))

/-- The memories of the state after reset are in canonical form. -/
theorem start_memories_wf (c : Instance) (draw : Nat) :
    Memory.wf (State.start c draw).pb = true ∧ Memory.wf (State.start c draw).ef = true :=
  ⟨rfl, rfl⟩

/-- Byte `x` of `PB` after a write at `a`. -/
theorem State.pbByte_setPb_write (s : State) (a : Nat) (v : Byte) (x : Nat) :
    (s.setPb (Memory.write s.pb a v)).pbByte x = if x = a then v else s.pbByte x := by
  by_cases h : x = a <;> simp [State.pbByte, State.setPb, Memory.get?_write, h]

/-- Byte `x` of `PB` after the clearing pass: 0xFF inside the buffer. -/
theorem State.pbByte_clearPb (s : State) (x : Nat) :
    s.clearPb.pbByte x = if x < nbytes s.cfg then 0xFF#8 else s.pbByte x := by
  by_cases h : x < nbytes s.cfg <;>
    simp [State.pbByte, State.clearPb, State.setPb, Memory.get?_writeAll, h]

end Sys2Proof.Machine
end

