-- ==== Sys2Proof/Laws/State.lean ====
section
/-! SUPPORT. One lemma per field of the state and per update of `Machine/Ops.lean`: what each update leaves in each field. -/

namespace Sys2Proof.Machine

section SetPol
variable (s : State) (v : Bool)
@[simp] theorem State.setPol_cfg : (s.setPol v).cfg = s.cfg := rfl
@[simp] theorem State.setPol_pol : (s.setPol v).pol = v := rfl
@[simp] theorem State.setPol_rot : (s.setPol v).rot = s.rot := rfl
@[simp] theorem State.setPol_ready : (s.setPol v).ready = s.ready := rfl
@[simp] theorem State.setPol_busy : (s.setPol v).busy = s.busy := rfl
@[simp] theorem State.setPol_scs : (s.setPol v).scs = s.scs := rfl
@[simp] theorem State.setPol_txn : (s.setPol v).txn = s.txn := rfl
@[simp] theorem State.setPol_pos : (s.setPol v).pos = s.pos := rfl
@[simp] theorem State.setPol_pb : (s.setPol v).pb = s.pb := rfl
@[simp] theorem State.setPol_ef : (s.setPol v).ef = s.ef := rfl
@[simp] theorem State.setPol_powerUp : (s.setPol v).powerUp = s.powerUp := rfl
@[simp] theorem State.setPol_hostIn : (s.setPol v).hostIn = s.hostIn := rfl
@[simp] theorem State.setPol_txIn : (s.setPol v).txIn = s.txIn := rfl
@[simp] theorem State.setPol_txRest : (s.setPol v).txRest = s.txRest := rfl
@[simp] theorem State.setPol_chunk : (s.setPol v).chunk = s.chunk := rfl
@[simp] theorem State.setPol_events : (s.setPol v).events = s.events := rfl
@[simp] theorem State.setPol_rsps : (s.setPol v).rsps = s.rsps := rfl
end SetPol

section SetRot
variable (s : State) (v : Rot)
@[simp] theorem State.setRot_cfg : (s.setRot v).cfg = s.cfg := rfl
@[simp] theorem State.setRot_pol : (s.setRot v).pol = s.pol := rfl
@[simp] theorem State.setRot_rot : (s.setRot v).rot = v := rfl
@[simp] theorem State.setRot_ready : (s.setRot v).ready = s.ready := rfl
@[simp] theorem State.setRot_busy : (s.setRot v).busy = s.busy := rfl
@[simp] theorem State.setRot_scs : (s.setRot v).scs = s.scs := rfl
@[simp] theorem State.setRot_txn : (s.setRot v).txn = s.txn := rfl
@[simp] theorem State.setRot_pos : (s.setRot v).pos = s.pos := rfl
@[simp] theorem State.setRot_pb : (s.setRot v).pb = s.pb := rfl
@[simp] theorem State.setRot_ef : (s.setRot v).ef = s.ef := rfl
@[simp] theorem State.setRot_powerUp : (s.setRot v).powerUp = s.powerUp := rfl
@[simp] theorem State.setRot_hostIn : (s.setRot v).hostIn = s.hostIn := rfl
@[simp] theorem State.setRot_txIn : (s.setRot v).txIn = s.txIn := rfl
@[simp] theorem State.setRot_txRest : (s.setRot v).txRest = s.txRest := rfl
@[simp] theorem State.setRot_chunk : (s.setRot v).chunk = s.chunk := rfl
@[simp] theorem State.setRot_events : (s.setRot v).events = s.events := rfl
@[simp] theorem State.setRot_rsps : (s.setRot v).rsps = s.rsps := rfl
end SetRot

section SetReady
variable (s : State) (v : Bool)
@[simp] theorem State.setReady_cfg : (s.setReady v).cfg = s.cfg := rfl
@[simp] theorem State.setReady_pol : (s.setReady v).pol = s.pol := rfl
@[simp] theorem State.setReady_rot : (s.setReady v).rot = s.rot := rfl
@[simp] theorem State.setReady_ready : (s.setReady v).ready = v := rfl
@[simp] theorem State.setReady_busy : (s.setReady v).busy = s.busy := rfl
@[simp] theorem State.setReady_scs : (s.setReady v).scs = s.scs := rfl
@[simp] theorem State.setReady_txn : (s.setReady v).txn = s.txn := rfl
@[simp] theorem State.setReady_pos : (s.setReady v).pos = s.pos := rfl
@[simp] theorem State.setReady_pb : (s.setReady v).pb = s.pb := rfl
@[simp] theorem State.setReady_ef : (s.setReady v).ef = s.ef := rfl
@[simp] theorem State.setReady_powerUp : (s.setReady v).powerUp = s.powerUp := rfl
@[simp] theorem State.setReady_hostIn : (s.setReady v).hostIn = s.hostIn := rfl
@[simp] theorem State.setReady_txIn : (s.setReady v).txIn = s.txIn := rfl
@[simp] theorem State.setReady_txRest : (s.setReady v).txRest = s.txRest := rfl
@[simp] theorem State.setReady_chunk : (s.setReady v).chunk = s.chunk := rfl
@[simp] theorem State.setReady_events : (s.setReady v).events = s.events := rfl
@[simp] theorem State.setReady_rsps : (s.setReady v).rsps = s.rsps := rfl
end SetReady

section SetBusy
variable (s : State) (v : Bool)
@[simp] theorem State.setBusy_cfg : (s.setBusy v).cfg = s.cfg := rfl
@[simp] theorem State.setBusy_pol : (s.setBusy v).pol = s.pol := rfl
@[simp] theorem State.setBusy_rot : (s.setBusy v).rot = s.rot := rfl
@[simp] theorem State.setBusy_ready : (s.setBusy v).ready = s.ready := rfl
@[simp] theorem State.setBusy_busy : (s.setBusy v).busy = v := rfl
@[simp] theorem State.setBusy_scs : (s.setBusy v).scs = s.scs := rfl
@[simp] theorem State.setBusy_txn : (s.setBusy v).txn = s.txn := rfl
@[simp] theorem State.setBusy_pos : (s.setBusy v).pos = s.pos := rfl
@[simp] theorem State.setBusy_pb : (s.setBusy v).pb = s.pb := rfl
@[simp] theorem State.setBusy_ef : (s.setBusy v).ef = s.ef := rfl
@[simp] theorem State.setBusy_powerUp : (s.setBusy v).powerUp = s.powerUp := rfl
@[simp] theorem State.setBusy_hostIn : (s.setBusy v).hostIn = s.hostIn := rfl
@[simp] theorem State.setBusy_txIn : (s.setBusy v).txIn = s.txIn := rfl
@[simp] theorem State.setBusy_txRest : (s.setBusy v).txRest = s.txRest := rfl
@[simp] theorem State.setBusy_chunk : (s.setBusy v).chunk = s.chunk := rfl
@[simp] theorem State.setBusy_events : (s.setBusy v).events = s.events := rfl
@[simp] theorem State.setBusy_rsps : (s.setBusy v).rsps = s.rsps := rfl
end SetBusy

section SetScs
variable (s : State) (v : Bool)
@[simp] theorem State.setScs_cfg : (s.setScs v).cfg = s.cfg := rfl
@[simp] theorem State.setScs_pol : (s.setScs v).pol = s.pol := rfl
@[simp] theorem State.setScs_rot : (s.setScs v).rot = s.rot := rfl
@[simp] theorem State.setScs_ready : (s.setScs v).ready = s.ready := rfl
@[simp] theorem State.setScs_busy : (s.setScs v).busy = s.busy := rfl
@[simp] theorem State.setScs_scs : (s.setScs v).scs = v := rfl
@[simp] theorem State.setScs_txn : (s.setScs v).txn = s.txn := rfl
@[simp] theorem State.setScs_pos : (s.setScs v).pos = s.pos := rfl
@[simp] theorem State.setScs_pb : (s.setScs v).pb = s.pb := rfl
@[simp] theorem State.setScs_ef : (s.setScs v).ef = s.ef := rfl
@[simp] theorem State.setScs_powerUp : (s.setScs v).powerUp = s.powerUp := rfl
@[simp] theorem State.setScs_hostIn : (s.setScs v).hostIn = s.hostIn := rfl
@[simp] theorem State.setScs_txIn : (s.setScs v).txIn = s.txIn := rfl
@[simp] theorem State.setScs_txRest : (s.setScs v).txRest = s.txRest := rfl
@[simp] theorem State.setScs_chunk : (s.setScs v).chunk = s.chunk := rfl
@[simp] theorem State.setScs_events : (s.setScs v).events = s.events := rfl
@[simp] theorem State.setScs_rsps : (s.setScs v).rsps = s.rsps := rfl
end SetScs

section SetTxn
variable (s : State) (v : Bool)
@[simp] theorem State.setTxn_cfg : (s.setTxn v).cfg = s.cfg := rfl
@[simp] theorem State.setTxn_pol : (s.setTxn v).pol = s.pol := rfl
@[simp] theorem State.setTxn_rot : (s.setTxn v).rot = s.rot := rfl
@[simp] theorem State.setTxn_ready : (s.setTxn v).ready = s.ready := rfl
@[simp] theorem State.setTxn_busy : (s.setTxn v).busy = s.busy := rfl
@[simp] theorem State.setTxn_scs : (s.setTxn v).scs = s.scs := rfl
@[simp] theorem State.setTxn_txn : (s.setTxn v).txn = v := rfl
@[simp] theorem State.setTxn_pos : (s.setTxn v).pos = s.pos := rfl
@[simp] theorem State.setTxn_pb : (s.setTxn v).pb = s.pb := rfl
@[simp] theorem State.setTxn_ef : (s.setTxn v).ef = s.ef := rfl
@[simp] theorem State.setTxn_powerUp : (s.setTxn v).powerUp = s.powerUp := rfl
@[simp] theorem State.setTxn_hostIn : (s.setTxn v).hostIn = s.hostIn := rfl
@[simp] theorem State.setTxn_txIn : (s.setTxn v).txIn = s.txIn := rfl
@[simp] theorem State.setTxn_txRest : (s.setTxn v).txRest = s.txRest := rfl
@[simp] theorem State.setTxn_chunk : (s.setTxn v).chunk = s.chunk := rfl
@[simp] theorem State.setTxn_events : (s.setTxn v).events = s.events := rfl
@[simp] theorem State.setTxn_rsps : (s.setTxn v).rsps = s.rsps := rfl
end SetTxn

section SetPos
variable (s : State) (v : Nat)
@[simp] theorem State.setPos_cfg : (s.setPos v).cfg = s.cfg := rfl
@[simp] theorem State.setPos_pol : (s.setPos v).pol = s.pol := rfl
@[simp] theorem State.setPos_rot : (s.setPos v).rot = s.rot := rfl
@[simp] theorem State.setPos_ready : (s.setPos v).ready = s.ready := rfl
@[simp] theorem State.setPos_busy : (s.setPos v).busy = s.busy := rfl
@[simp] theorem State.setPos_scs : (s.setPos v).scs = s.scs := rfl
@[simp] theorem State.setPos_txn : (s.setPos v).txn = s.txn := rfl
@[simp] theorem State.setPos_pos : (s.setPos v).pos = v := rfl
@[simp] theorem State.setPos_pb : (s.setPos v).pb = s.pb := rfl
@[simp] theorem State.setPos_ef : (s.setPos v).ef = s.ef := rfl
@[simp] theorem State.setPos_powerUp : (s.setPos v).powerUp = s.powerUp := rfl
@[simp] theorem State.setPos_hostIn : (s.setPos v).hostIn = s.hostIn := rfl
@[simp] theorem State.setPos_txIn : (s.setPos v).txIn = s.txIn := rfl
@[simp] theorem State.setPos_txRest : (s.setPos v).txRest = s.txRest := rfl
@[simp] theorem State.setPos_chunk : (s.setPos v).chunk = s.chunk := rfl
@[simp] theorem State.setPos_events : (s.setPos v).events = s.events := rfl
@[simp] theorem State.setPos_rsps : (s.setPos v).rsps = s.rsps := rfl
end SetPos

section SetPb
variable (s : State) (v : Memory)
@[simp] theorem State.setPb_cfg : (s.setPb v).cfg = s.cfg := rfl
@[simp] theorem State.setPb_pol : (s.setPb v).pol = s.pol := rfl
@[simp] theorem State.setPb_rot : (s.setPb v).rot = s.rot := rfl
@[simp] theorem State.setPb_ready : (s.setPb v).ready = s.ready := rfl
@[simp] theorem State.setPb_busy : (s.setPb v).busy = s.busy := rfl
@[simp] theorem State.setPb_scs : (s.setPb v).scs = s.scs := rfl
@[simp] theorem State.setPb_txn : (s.setPb v).txn = s.txn := rfl
@[simp] theorem State.setPb_pos : (s.setPb v).pos = s.pos := rfl
@[simp] theorem State.setPb_pb : (s.setPb v).pb = v := rfl
@[simp] theorem State.setPb_ef : (s.setPb v).ef = s.ef := rfl
@[simp] theorem State.setPb_powerUp : (s.setPb v).powerUp = s.powerUp := rfl
@[simp] theorem State.setPb_hostIn : (s.setPb v).hostIn = s.hostIn := rfl
@[simp] theorem State.setPb_txIn : (s.setPb v).txIn = s.txIn := rfl
@[simp] theorem State.setPb_txRest : (s.setPb v).txRest = s.txRest := rfl
@[simp] theorem State.setPb_chunk : (s.setPb v).chunk = s.chunk := rfl
@[simp] theorem State.setPb_events : (s.setPb v).events = s.events := rfl
@[simp] theorem State.setPb_rsps : (s.setPb v).rsps = s.rsps := rfl
end SetPb

section SetEf
variable (s : State) (v : Memory)
@[simp] theorem State.setEf_cfg : (s.setEf v).cfg = s.cfg := rfl
@[simp] theorem State.setEf_pol : (s.setEf v).pol = s.pol := rfl
@[simp] theorem State.setEf_rot : (s.setEf v).rot = s.rot := rfl
@[simp] theorem State.setEf_ready : (s.setEf v).ready = s.ready := rfl
@[simp] theorem State.setEf_busy : (s.setEf v).busy = s.busy := rfl
@[simp] theorem State.setEf_scs : (s.setEf v).scs = s.scs := rfl
@[simp] theorem State.setEf_txn : (s.setEf v).txn = s.txn := rfl
@[simp] theorem State.setEf_pos : (s.setEf v).pos = s.pos := rfl
@[simp] theorem State.setEf_pb : (s.setEf v).pb = s.pb := rfl
@[simp] theorem State.setEf_ef : (s.setEf v).ef = v := rfl
@[simp] theorem State.setEf_powerUp : (s.setEf v).powerUp = s.powerUp := rfl
@[simp] theorem State.setEf_hostIn : (s.setEf v).hostIn = s.hostIn := rfl
@[simp] theorem State.setEf_txIn : (s.setEf v).txIn = s.txIn := rfl
@[simp] theorem State.setEf_txRest : (s.setEf v).txRest = s.txRest := rfl
@[simp] theorem State.setEf_chunk : (s.setEf v).chunk = s.chunk := rfl
@[simp] theorem State.setEf_events : (s.setEf v).events = s.events := rfl
@[simp] theorem State.setEf_rsps : (s.setEf v).rsps = s.rsps := rfl
end SetEf

section SetChunk
variable (s : State) (v : List Byte)
@[simp] theorem State.setChunk_cfg : (s.setChunk v).cfg = s.cfg := rfl
@[simp] theorem State.setChunk_pol : (s.setChunk v).pol = s.pol := rfl
@[simp] theorem State.setChunk_rot : (s.setChunk v).rot = s.rot := rfl
@[simp] theorem State.setChunk_ready : (s.setChunk v).ready = s.ready := rfl
@[simp] theorem State.setChunk_busy : (s.setChunk v).busy = s.busy := rfl
@[simp] theorem State.setChunk_scs : (s.setChunk v).scs = s.scs := rfl
@[simp] theorem State.setChunk_txn : (s.setChunk v).txn = s.txn := rfl
@[simp] theorem State.setChunk_pos : (s.setChunk v).pos = s.pos := rfl
@[simp] theorem State.setChunk_pb : (s.setChunk v).pb = s.pb := rfl
@[simp] theorem State.setChunk_ef : (s.setChunk v).ef = s.ef := rfl
@[simp] theorem State.setChunk_powerUp : (s.setChunk v).powerUp = s.powerUp := rfl
@[simp] theorem State.setChunk_hostIn : (s.setChunk v).hostIn = s.hostIn := rfl
@[simp] theorem State.setChunk_txIn : (s.setChunk v).txIn = s.txIn := rfl
@[simp] theorem State.setChunk_txRest : (s.setChunk v).txRest = s.txRest := rfl
@[simp] theorem State.setChunk_chunk : (s.setChunk v).chunk = v := rfl
@[simp] theorem State.setChunk_events : (s.setChunk v).events = s.events := rfl
@[simp] theorem State.setChunk_rsps : (s.setChunk v).rsps = s.rsps := rfl
end SetChunk

section SetHostIn
variable (s : State) (v : List HostAct)
@[simp] theorem State.setHostIn_cfg : (s.setHostIn v).cfg = s.cfg := rfl
@[simp] theorem State.setHostIn_pol : (s.setHostIn v).pol = s.pol := rfl
@[simp] theorem State.setHostIn_rot : (s.setHostIn v).rot = s.rot := rfl
@[simp] theorem State.setHostIn_ready : (s.setHostIn v).ready = s.ready := rfl
@[simp] theorem State.setHostIn_busy : (s.setHostIn v).busy = s.busy := rfl
@[simp] theorem State.setHostIn_scs : (s.setHostIn v).scs = s.scs := rfl
@[simp] theorem State.setHostIn_txn : (s.setHostIn v).txn = s.txn := rfl
@[simp] theorem State.setHostIn_pos : (s.setHostIn v).pos = s.pos := rfl
@[simp] theorem State.setHostIn_pb : (s.setHostIn v).pb = s.pb := rfl
@[simp] theorem State.setHostIn_ef : (s.setHostIn v).ef = s.ef := rfl
@[simp] theorem State.setHostIn_powerUp : (s.setHostIn v).powerUp = s.powerUp := rfl
@[simp] theorem State.setHostIn_hostIn : (s.setHostIn v).hostIn = v := rfl
@[simp] theorem State.setHostIn_txIn : (s.setHostIn v).txIn = s.txIn := rfl
@[simp] theorem State.setHostIn_txRest : (s.setHostIn v).txRest = s.txRest := rfl
@[simp] theorem State.setHostIn_chunk : (s.setHostIn v).chunk = s.chunk := rfl
@[simp] theorem State.setHostIn_events : (s.setHostIn v).events = s.events := rfl
@[simp] theorem State.setHostIn_rsps : (s.setHostIn v).rsps = s.rsps := rfl
end SetHostIn

section SetTxIn
variable (s : State) (v : List TxMoment)
@[simp] theorem State.setTxIn_cfg : (s.setTxIn v).cfg = s.cfg := rfl
@[simp] theorem State.setTxIn_pol : (s.setTxIn v).pol = s.pol := rfl
@[simp] theorem State.setTxIn_rot : (s.setTxIn v).rot = s.rot := rfl
@[simp] theorem State.setTxIn_ready : (s.setTxIn v).ready = s.ready := rfl
@[simp] theorem State.setTxIn_busy : (s.setTxIn v).busy = s.busy := rfl
@[simp] theorem State.setTxIn_scs : (s.setTxIn v).scs = s.scs := rfl
@[simp] theorem State.setTxIn_txn : (s.setTxIn v).txn = s.txn := rfl
@[simp] theorem State.setTxIn_pos : (s.setTxIn v).pos = s.pos := rfl
@[simp] theorem State.setTxIn_pb : (s.setTxIn v).pb = s.pb := rfl
@[simp] theorem State.setTxIn_ef : (s.setTxIn v).ef = s.ef := rfl
@[simp] theorem State.setTxIn_powerUp : (s.setTxIn v).powerUp = s.powerUp := rfl
@[simp] theorem State.setTxIn_hostIn : (s.setTxIn v).hostIn = s.hostIn := rfl
@[simp] theorem State.setTxIn_txIn : (s.setTxIn v).txIn = v := rfl
@[simp] theorem State.setTxIn_txRest : (s.setTxIn v).txRest = s.txRest := rfl
@[simp] theorem State.setTxIn_chunk : (s.setTxIn v).chunk = s.chunk := rfl
@[simp] theorem State.setTxIn_events : (s.setTxIn v).events = s.events := rfl
@[simp] theorem State.setTxIn_rsps : (s.setTxIn v).rsps = s.rsps := rfl
end SetTxIn

section Emit
variable (s : State) (e : TxEvent)
@[simp] theorem State.emit_cfg : (s.emit e).cfg = s.cfg := rfl
@[simp] theorem State.emit_pol : (s.emit e).pol = s.pol := rfl
@[simp] theorem State.emit_rot : (s.emit e).rot = s.rot := rfl
@[simp] theorem State.emit_ready : (s.emit e).ready = s.ready := rfl
@[simp] theorem State.emit_busy : (s.emit e).busy = s.busy := rfl
@[simp] theorem State.emit_scs : (s.emit e).scs = s.scs := rfl
@[simp] theorem State.emit_txn : (s.emit e).txn = s.txn := rfl
@[simp] theorem State.emit_pos : (s.emit e).pos = s.pos := rfl
@[simp] theorem State.emit_pb : (s.emit e).pb = s.pb := rfl
@[simp] theorem State.emit_ef : (s.emit e).ef = s.ef := rfl
@[simp] theorem State.emit_powerUp : (s.emit e).powerUp = s.powerUp := rfl
@[simp] theorem State.emit_hostIn : (s.emit e).hostIn = s.hostIn := rfl
@[simp] theorem State.emit_txIn : (s.emit e).txIn = s.txIn := rfl
@[simp] theorem State.emit_txRest : (s.emit e).txRest = s.txRest := rfl
@[simp] theorem State.emit_chunk : (s.emit e).chunk = s.chunk := rfl
@[simp] theorem State.emit_events : (s.emit e).events = s.events ++ [e] := rfl
@[simp] theorem State.emit_rsps : (s.emit e).rsps = s.rsps := rfl
end Emit

section Answer
variable (s : State) (r : Response)
@[simp] theorem State.answer_cfg : (s.answer r).cfg = s.cfg := rfl
@[simp] theorem State.answer_pol : (s.answer r).pol = s.pol := rfl
@[simp] theorem State.answer_rot : (s.answer r).rot = s.rot := rfl
@[simp] theorem State.answer_ready : (s.answer r).ready = s.ready := rfl
@[simp] theorem State.answer_busy : (s.answer r).busy = s.busy := rfl
@[simp] theorem State.answer_scs : (s.answer r).scs = s.scs := rfl
@[simp] theorem State.answer_txn : (s.answer r).txn = s.txn := rfl
@[simp] theorem State.answer_pos : (s.answer r).pos = s.pos := rfl
@[simp] theorem State.answer_pb : (s.answer r).pb = s.pb := rfl
@[simp] theorem State.answer_ef : (s.answer r).ef = s.ef := rfl
@[simp] theorem State.answer_powerUp : (s.answer r).powerUp = s.powerUp := rfl
@[simp] theorem State.answer_hostIn : (s.answer r).hostIn = s.hostIn := rfl
@[simp] theorem State.answer_txIn : (s.answer r).txIn = s.txIn := rfl
@[simp] theorem State.answer_txRest : (s.answer r).txRest = s.txRest := rfl
@[simp] theorem State.answer_chunk : (s.answer r).chunk = s.chunk := rfl
@[simp] theorem State.answer_events : (s.answer r).events = s.events := rfl
@[simp] theorem State.answer_rsps : (s.answer r).rsps = s.rsps ++ [r] := rfl
end Answer

section Respond
variable (s : State) (v : Bool)
@[simp] theorem State.respond_cfg : (s.respond v).cfg = s.cfg := rfl
@[simp] theorem State.respond_pol : (s.respond v).pol = s.pol := rfl
@[simp] theorem State.respond_rot : (s.respond v).rot = s.rot := rfl
@[simp] theorem State.respond_ready : (s.respond v).ready = s.ready := rfl
@[simp] theorem State.respond_busy : (s.respond v).busy = s.busy := rfl
@[simp] theorem State.respond_scs : (s.respond v).scs = s.scs := rfl
@[simp] theorem State.respond_txn : (s.respond v).txn = s.txn := rfl
@[simp] theorem State.respond_pos : (s.respond v).pos = s.pos := rfl
@[simp] theorem State.respond_pb : (s.respond v).pb = s.pb := rfl
@[simp] theorem State.respond_ef : (s.respond v).ef = s.ef := rfl
@[simp] theorem State.respond_powerUp : (s.respond v).powerUp = s.powerUp := rfl
@[simp] theorem State.respond_hostIn : (s.respond v).hostIn = s.hostIn := rfl
@[simp] theorem State.respond_txIn : (s.respond v).txIn = s.txIn := rfl
@[simp] theorem State.respond_txRest : (s.respond v).txRest = s.txRest := rfl
@[simp] theorem State.respond_chunk : (s.respond v).chunk = s.chunk := rfl
@[simp] theorem State.respond_events : (s.respond v).events = s.events := rfl
@[simp] theorem State.respond_rsps : (s.respond v).rsps = s.rsps ++ [{ ok := true, val := v, why := none }] := rfl
end Respond

section Reject
variable (s : State) (why : Reject)
@[simp] theorem State.reject_cfg : (s.reject why).cfg = s.cfg := rfl
@[simp] theorem State.reject_pol : (s.reject why).pol = s.pol := rfl
@[simp] theorem State.reject_rot : (s.reject why).rot = s.rot := rfl
@[simp] theorem State.reject_ready : (s.reject why).ready = s.ready := rfl
@[simp] theorem State.reject_busy : (s.reject why).busy = s.busy := rfl
@[simp] theorem State.reject_scs : (s.reject why).scs = s.scs := rfl
@[simp] theorem State.reject_txn : (s.reject why).txn = s.txn := rfl
@[simp] theorem State.reject_pos : (s.reject why).pos = s.pos := rfl
@[simp] theorem State.reject_pb : (s.reject why).pb = s.pb := rfl
@[simp] theorem State.reject_ef : (s.reject why).ef = s.ef := rfl
@[simp] theorem State.reject_powerUp : (s.reject why).powerUp = s.powerUp := rfl
@[simp] theorem State.reject_hostIn : (s.reject why).hostIn = s.hostIn := rfl
@[simp] theorem State.reject_txIn : (s.reject why).txIn = s.txIn := rfl
@[simp] theorem State.reject_txRest : (s.reject why).txRest = s.txRest := rfl
@[simp] theorem State.reject_chunk : (s.reject why).chunk = s.chunk := rfl
@[simp] theorem State.reject_events : (s.reject why).events = s.events := rfl
@[simp] theorem State.reject_rsps : (s.reject why).rsps = s.rsps ++ [{ ok := false, val := false, why := some why }] := rfl
end Reject

end Sys2Proof.Machine
end

