-- ==== Sys2Proof/Laws/Ops.lean ====
section
/-! SUPPORT. For each shared operation of `Machine/Ops.lean` one lemma that says everything it can do. -/

namespace Sys2Proof.Machine

/-- A command other than `INIT`, on a ready instance, is carried out. -/
theorem admitCommand_ready (s : State) (o : Host.Outcome State Fault Refusal) (hb : s.busy = false)
    (hr : s.ready = true) : admitCommand s o = o := by
  simp [admitCommand, hb, hr]

/-- A command other than `INIT` before a successful `INIT` is rejected `NotReady`. -/
theorem admitCommand_notReady (s : State) (o : Host.Outcome State Fault Refusal) (hb : s.busy = false)
    (hr : s.ready = false) : admitCommand s o = .next (s.reject .notReady) := by
  simp [admitCommand, hb, hr]

/-- Everything the admission checks of R166 (3) can answer with a next state. -/
theorem admitCommand_next_cases {s t : State} {o : Host.Outcome State Fault Refusal} (h : admitCommand s o = .next t) :
    s.busy = false ∧ ((s.ready = true ∧ o = .next t) ∨ (s.ready = false ∧ t = s.reject .notReady)) := by
  cases hb : s.busy <;> cases hr : s.ready <;> simp [admitCommand, hb, hr] at h <;> simp [h]

/-- Everything the admission checks of `INIT` can answer with a next state. -/
theorem admitInit_next_cases {s t : State} {o : Host.Outcome State Fault Refusal} (h : admitInit s o = .next t) :
    s.busy = false ∧
      ((s.ready = true ∧ t = s.reject .alreadyInit) ∨
       (s.ready = false ∧ s.cfg.allocOk = true ∧ o = .next t) ∨
       (s.ready = false ∧ s.cfg.allocOk = false ∧ t = s.reject .allocFail)) := by
  cases hb : s.busy <;> cases hr : s.ready <;> cases ha : s.cfg.allocOk <;>
    simp [admitInit, hb, hr, ha] at h <;> simp [h]

/-- A read inside `PB` gives the byte. -/
theorem memRead_inside (s : State) (a : Nat) (h : a < nbytes s.cfg) : s.memRead a = .ok (s.pbByte a) := by
  simp [State.memRead, h]

/-- The read-modify-write of one pixel, inside `PB`. -/
theorem writePixel_inside (s : State) (k n colour : Nat) (h : k < nbytes s.cfg) :
    s.writePixel k n colour = .ok (s.setPb (Memory.write s.pb k (putPixel (s.pbByte k) n colour))) := by
  simp [State.writePixel, State.memRead, State.memWrite, h]

/-- Everything the read-modify-write of one pixel can give: one byte of `PB` written, and nothing else. -/
theorem writePixel_ok_cases {s t : State} {k n colour : Nat} (h : s.writePixel k n colour = .ok t) :
    k < nbytes s.cfg ∧ t = s.setPb (Memory.write s.pb k (putPixel (s.pbByte k) n colour)) := by
  by_cases hk : k < nbytes s.cfg
  · rw [writePixel_inside s k n colour hk] at h
    exact ⟨hk, (Except.ok.inj h).symm⟩
  · simp [State.writePixel, State.memRead, hk] at h

end Sys2Proof.Machine
end

