-- ==== Sys2Proof/Laws/PerInstr.lean ====
section
/-! SUPPORT. Statements made per command. Family `EncodedWord`: the word of a command matches the command's own row of the
opcode map (`30_encoding.md` R63). -/

namespace Sys2Proof.Laws.EncodedWord

/-- The encoding of the command is a word of the command's own row. For a command that is not well formed this is a fact about the
model's own choice of a word (log 16). -/
def Statement (i : Instr) : Prop :=
  ∃ row ∈ opcodeTable, row.opcode = opcodeOf i ∧ row.matchesWord (encode i) = true

theorem init : Statement .init :=
  ⟨⟨.init, 0x01000000000000#56, 0xFFFFFFFFFFFFFF#56⟩, by decide, rfl, by decide⟩

theorem setrot (r : Rot) : Statement (.setrot r) :=
  ⟨⟨.setrot, 0x02000000000000#56, 0xFFFFFFFFFFFFFC#56⟩, by decide, rfl, by cases r <;> decide⟩

theorem setpix (x y : Int) (colour : Nat) : Statement (.setpix x y colour) := by
  refine ⟨⟨.setpix, 0x10000000000000#56, 0xFF000000000000#56⟩, by decide, rfl, ?_⟩
  rw [OpcodeRow.matchesWord, encode, show (0xFF000000000000#56 : CmdWord) = packWord 0xFF#8 0#16 0#16 0#16 by decide,
    packWord_and]
  simp only [BitVec.and_zero]
  decide

theorem getpix (x y : Int) : Statement (.getpix x y) := by
  refine ⟨⟨.getpix, 0x11000000000000#56, 0xFF00000000FFFF#56⟩, by decide, rfl, ?_⟩
  rw [OpcodeRow.matchesWord, encode, show (0xFF00000000FFFF#56 : CmdWord) = packWord 0xFF#8 0#16 0#16 0xFFFF#16 by decide,
    packWord_and]
  simp only [BitVec.and_zero]
  decide

theorem clrbuf : Statement .clrbuf :=
  ⟨⟨.clrbuf, 0x20000000000000#56, 0xFFFFFFFFFFFFFF#56⟩, by decide, rfl, by decide⟩

theorem clrref : Statement .clrref :=
  ⟨⟨.clrref, 0x21000000000000#56, 0xFFFFFFFFFFFFFF#56⟩, by decide, rfl, by decide⟩

theorem refresh : Statement .refresh :=
  ⟨⟨.refresh, 0x30000000000000#56, 0xFFFFFFFFFFFFFF#56⟩, by decide, rfl, by decide⟩

end Sys2Proof.Laws.EncodedWord
end

