-- ==== Sys2Proof/Laws/Ports.lean ====
section
/-! SUPPORT. The words left among the host's coming acts, said once. -/

namespace Sys2Proof.Machine

@[simp] theorem pendingWords_nil : pendingWords [] = [] := rfl

@[simp] theorem pendingWords_word (cw : CmdWord) (acts : List HostAct) :
    pendingWords (.word cw :: acts) = cw :: pendingWords acts := rfl

@[simp] theorem pendingWords_pause (acts : List HostAct) : pendingWords (.pause :: acts) = pendingWords acts := rfl

@[simp] theorem pendingWords_rst (acts : List HostAct) : pendingWords (.rst :: acts) = pendingWords acts := rfl

/-- A word is left exactly when the host is still to present it. -/
theorem mem_pendingWords (cw : CmdWord) (acts : List HostAct) : cw ∈ pendingWords acts ↔ HostAct.word cw ∈ acts := by
  induction acts with
  | nil => simp
  | cons act acts ih => cases act <;> simp [ih]

end Sys2Proof.Machine
end

