-- ==== Sys2Proof/Laws/Sequencer.lean ====
section
/-! SUPPORT. What the sequencer's steps and the whole step can do, said once. -/

namespace Sys2Proof.Machine

/-- The staging pass writes `EF` only. -/
theorem stageFrame_eq (s : State) : s.stageFrame = { s with ef := s.stageFrame.ef } := by
  unfold State.stageFrame; cases s.cfg.strategy <;> rfl

/-- The start step, field by field (R123). -/
theorem startRefresh_eq (s : State) :
    s.startRefresh =
      { s with
        busy := true, scs := true, txn := true, pos := 0, chunk := [], ef := s.stageFrame.ef
        events := s.events ++ [.txnBegin s.cfg.busCfg, .csHigh] } := by
  cases h : s.cfg.strategy <;>
    simp [State.startRefresh, State.stageFrame, State.openTxn, State.raiseCs, State.setBusy, State.setTxn, State.emit, State.setScs,
      State.setPos, State.setChunk, State.setEf, h] <;> rfl

/-- The byte taken, field by field (R124). -/
theorem takeByte_eq (s : State) :
    s.takeByte =
      { s with
        pos := s.pos + 1
        chunk := if isLast s.cfg s.pos then [] else s.chunk ++ [s.offeredByte]
        events := if isLast s.cfg s.pos then s.events ++ [.send (s.chunk ++ [s.offeredByte])] else s.events } := by
  cases hl : isLast s.cfg s.pos <;> simp only [State.takeByte, hl, if_true, if_false, Bool.false_eq_true] <;> rfl

/-- The finish step, field by field (R125). -/
theorem finishRefresh_eq (s : State) :
    s.finishRefresh =
      { s with
        scs := false, txn := false, pol := !s.pol, pos := 0, busy := false
        events := s.events ++ [.csLow, .txnEnd]
        rsps := s.rsps ++ [{ ok := true, val := false, why := none }] } := by
  simp [State.finishRefresh, State.dropCs, State.closeTxn, State.toggle, State.setScs, State.emit, State.setTxn,
    State.setPol, State.setPos, State.setBusy, State.respond, State.answer]

/-- Everything the sequencer can answer with a next state: a byte taken, a moment of waiting, or the finish. -/
theorem sequencerStep_next_cases {s t : State} (h : sequencerStep s = .next t) :
    (s.pos < frameLen s.cfg ∧ s.txReady = true ∧ t = s.passMoment.takeByte) ∨
    (s.pos < frameLen s.cfg ∧ s.txReady = false ∧ t = s.passMoment) ∨
    (s.pos = frameLen s.cfg ∧ t = s.finishRefresh) := by
  unfold sequencerStep at h
  split at h
  · rename_i hp
    split at h
    · rename_i hr; exact .inl ⟨hp, hr, by simpa using h.symm⟩
    · rename_i hr; exact .inr (.inl ⟨hp, by simpa using hr, by simpa using h.symm⟩)
  · split at h
    · rename_i hp; exact .inr (.inr ⟨hp, by simpa using h.symm⟩)
    · exact absurd h (by simp)

/-- Everything a step can answer with a next state: a step of the sequencer while busy, a moment with no word, or an accepted
word carried out or rejected as illegal. -/
theorem step_next_cases {s t : State} (h : step s = .next t) :
    (s.busy = true ∧ s.hostIn.head? ≠ some .rst ∧ sequencerStep s = .next t) ∨
    (s.busy = false ∧ s.hostIn = [] ∧ t = s) ∨
    (s.busy = false ∧ ∃ rest, s.hostIn = .pause :: rest ∧ t = s.setHostIn rest) ∨
    (s.busy = false ∧ ∃ cw rest, s.hostIn = .word cw :: rest ∧
      ((∃ i, decode cw = .ok i ∧ exec i (s.setHostIn rest) = .next t) ∨
       ((∃ why, decode cw = .error why) ∧ t = (s.setHostIn rest).reject .illegal))) := by
  unfold step State.nextAct at h
  rcases hq : s.hostIn with _ | ⟨act, rest⟩
  · cases hb : s.busy <;> simp [hq, hb] at h ⊢ <;> simp [h]
  · cases act with
    | rst => simp [hq] at h
    | pause => cases hb : s.busy <;> simp [hq, hb] at h ⊢ <;> simp [h]
    | word cw =>
      cases hb : s.busy
      · simp only [hq, hb, Bool.false_eq_true, if_false] at h
        simp only [true_and, Bool.false_eq_true, false_and, false_or, List.cons.injEq, reduceCtorEq, HostAct.word.injEq, exists_const]
        refine ⟨cw, rest, ⟨rfl, rfl⟩, ?_⟩
        cases hd : decode cw with
        | ok i => simp only [hd] at h; exact .inl ⟨i, rfl, h⟩
        | error why =>
          simp only [hd, rejectIllegal, Host.Outcome.next.injEq] at h
          exact .inr ⟨⟨why, rfl⟩, h.symm⟩
      · simp [hq, hb] at h ⊢; exact h

end Sys2Proof.Machine
end

