-- ==== Sys2Proof/Tests/Slice0.lean ====
section
/-! SUPPORT. The model's own tests. Expected results come from `spec/95_test_vectors.md` (S, V and P numbers) and the tables of
`spec/30_encoding.md`; `test_wit_…` theorems show, for each statement with hypotheses, states and operands that meet all of them. -/

namespace Sys2Proof.Tests

open Sys2Proof.Machine

/-! Helpers. -/

/-- The parameters of V50 but for the size and the strategy. -/
def paramsOf (w h : Nat) (strategy : Strategy) : Params :=
  { Params.atReset with width := w, height := h, strategy := strategy }

/-- 16 × 3, `STAGED`. -/
def c16 : Instance := { toParams := paramsOf 16 3 .staged, isLegal := by decide }

/-- 16 × 3, `STREAMING`. -/
def c16s : Instance := { toParams := paramsOf 16 3 .streaming, isLegal := by decide }

/-- 8 × 2, `STAGED`. -/
def c8 : Instance := { toParams := paramsOf 8 2 .staged, isLegal := by decide }

/-- 320 × 240, `STAGED` (S8, V29a to V29d). -/
def c320 : Instance := { toParams := paramsOf 320 240 .staged, isLegal := by decide }

/-- 16 × 3 without its memories (V90 to V93). -/
def cNoMem : Instance := { toParams := { paramsOf 16 3 .staged with allocOk := false }, isLegal := by decide }

/-- A ready state whose `PB` holds the bytes listed, from address 0 on. -/
def readyWith (c : Instance) (bytes : List Byte) : State :=
  { State.start c 0 with ready := true, pb := (List.range bytes.length).zip bytes }

/-- `PB = [1, 2, 3, 4, 5, 6]` (V50). -/
def bytes6 : List Byte := [0x01#8, 0x02#8, 0x03#8, 0x04#8, 0x05#8, 0x06#8]

/-- All dark. -/
def dark6 : List Byte := [0x00#8, 0x00#8, 0x00#8, 0x00#8, 0x00#8, 0x00#8]

/-- The buffer of V30 to V41. -/
def rim6 : List Byte := [0xFF#8, 0xFF#8, 0xFF#8, 0xFF#8, 0xFF#8, 0x7F#8]

/-- The ready state of V50. -/
def v50 : State := readyWith c16 bytes6

/-- V50 after its start step (V53). -/
def v50Busy : State := v50.startRefresh

/-- The ready state of V51. -/
def v51 : State := readyWith c16s bytes6

/-- V51 after its start step. -/
def v51Busy : State := v51.startRefresh

/-- The next state, if there is one. -/
def nextOf : Host.Outcome State Fault Refusal → Option State
  | .next s => some s
  | .fault _ => none
  | .refused _ => none

/-- The last response of a next state. -/
def lastRsp (o : Host.Outcome State Fault Refusal) : Option Response := (nextOf o).bind (fun s => s.rsps.getLast?)

/-- `PB` of a next state, as data. -/
def pbOf (o : Host.Outcome State Fault Refusal) : Option Memory := (nextOf o).map State.pb

/-- The response `(1, v)`. -/
def okRsp (v : Bool) : Response := { ok := true, val := v, why := none }

/-- The response `(0, 0)` of a rejection. -/
def noRsp (why : Reject) : Response := { ok := false, val := false, why := some why }

/-! WellFormed: one ill-formed term per check (R80). -/

theorem test_wf_x_too_big : Instr.wellFormed (.setpix 32768 0 1) = false := by decide
theorem test_wf_x_too_small : Instr.wellFormed (.setpix (-32769) 0 1) = false := by decide
theorem test_wf_y_too_big : Instr.wellFormed (.setpix 0 32768 1) = false := by decide
theorem test_wf_y_too_small : Instr.wellFormed (.setpix 0 (-32769) 1) = false := by decide
theorem test_wf_colour_too_big : Instr.wellFormed (.setpix 0 0 65536) = false := by decide
theorem test_wf_getpix_x : Instr.wellFormed (.getpix 32768 0) = false := by decide
theorem test_wf_getpix_y : Instr.wellFormed (.getpix 0 (-32769)) = false := by decide
theorem test_wf_edges : Instr.wellFormed (.setpix 32767 (-32768) 65535) = true := by decide

/-! Ill-formed instances are not built (U7, U8, U9). -/

theorem test_width_not_multiple_of_8 : Instance.build? (paramsOf 12 3 .staged) = none := by decide
theorem test_width_zero : Instance.build? (paramsOf 0 3 .staged) = none := by decide
theorem test_width_too_big : Instance.build? (paramsOf 32768 3 .staged) = none := by decide
theorem test_height_zero : Instance.build? (paramsOf 16 0 .staged) = none := by decide
theorem test_height_too_big : Instance.build? (paramsOf 16 256 .staged) = none := by decide
theorem test_flag_and_mask_meet :
    Instance.build? { paramsOf 16 3 .staged with cmdWrite := 0xC0#8 } = none := by decide
theorem test_mask_two_bits :
    Instance.build? { paramsOf 16 3 .staged with polMask := 0x60#8 } = none := by decide
theorem test_legal_is_built : Instance.build? (paramsOf 16 3 .staged) = some c16 := by decide

/-! Decoding: V1 to V9e, words written out bit by bit from R61 and R63. -/

theorem test_decode_init : decode 0x01000000000000#56 = .ok .init := by rfl
theorem test_decode_setrot : decode 0x02000000000003#56 = .ok (.setrot .r3) := by rfl
theorem test_decode_setpix : decode 0x10000A00010001#56 = .ok (.setpix 10 1 1) := by rfl
theorem test_decode_setpix_negative : decode 0x100005FFFF0001#56 = .ok (.setpix 5 (-1) 1) := by rfl
theorem test_decode_setpix_most_negative : decode 0x10800000000001#56 = .ok (.setpix (-32768) 0 1) := by rfl
theorem test_decode_setpix_colour : decode 0x1000030001FFFF#56 = .ok (.setpix 3 1 65535) := by rfl
theorem test_decode_getpix : decode 0x11000F00020000#56 = .ok (.getpix 15 2) := by rfl
theorem test_decode_getpix_reserved : decode 0x11000F00020001#56 = .error (.reservedBitSet 0x11#8) := by rfl
theorem test_decode_setrot_4 : decode 0x02000000000004#56 = .error (.reservedBitSet 0x02#8) := by rfl
theorem test_decode_setrot_a : decode 0x02000100000001#56 = .error (.reservedBitSet 0x02#8) := by rfl
theorem test_decode_clrbuf : decode 0x20000000000000#56 = .ok .clrbuf := by rfl
theorem test_decode_clrbuf_reserved : decode 0x20000100000000#56 = .error (.reservedBitSet 0x20#8) := by rfl
theorem test_decode_clrref : decode 0x21000000000000#56 = .ok .clrref := by rfl
theorem test_decode_refresh : decode 0x30000000000000#56 = .ok .refresh := by rfl
theorem test_decode_refresh_reserved : decode 0x30000000000001#56 = .error (.reservedBitSet 0x30#8) := by rfl
theorem test_decode_zero : decode 0x00000000000000#56 = .error (.unassignedOpcode 0x00#8) := by rfl
theorem test_decode_ff : decode 0xFF000000000000#56 = .error (.unassignedOpcode 0xFF#8) := by rfl

/-- The words of R80, bit by bit: opcode, then the three fields. -/
theorem test_words_bit_by_bit :
    decode (0b00000010#8 ++ 0b0000000000000000#16 ++ 0b0000000000000000#16 ++ 0b0000000000000010#16) = .ok (.setrot .r2) ∧
    decode (0b00010000#8 ++ 0b0000000000001111#16 ++ 0b0000000000000010#16 ++ 0b0000000000000000#16) = .ok (.setpix 15 2 0) ∧
    decode (0b00010001#8 ++ 0b1111111111111111#16 ++ 0b0000000000000001#16 ++ 0b0000000000000000#16) = .ok (.getpix (-1) 1) :=
  ⟨rfl, rfl, rfl⟩

/-- The encoder on the words of 2.2, 2.3 and P2. -/
theorem test_encode :
    encode .init = 0x01000000000000#56 ∧ encode (.setrot .r1) = 0x02000000000001#56 ∧
    encode (Instr.pixon 2 15) = 0x100002000F0001#56 ∧ encode (Instr.pixoff (-1) 0) = 0x10FFFF00000000#56 ∧
    encode (.getpix 13 1) = 0x11000D00010000#56 ∧ encode .clrbuf = 0x20000000000000#56 ∧
    encode .clrref = 0x21000000000000#56 ∧ encode .refresh = 0x30000000000000#56 := by decide

/-- The table's bit numbering is that of the command word. -/
theorem test_table_word : decodeTableWord 56 0x100005FFFF0001 = some (.setpix 5 (-1) 1) := by rfl

/-! The bit-reversal table (V70, and row 0 of R73) and the masks (V71). -/

theorem test_rev_v70 :
    [0x00, 0x01, 0x02, 0x03, 0x04, 0x0F, 0x12, 0x55, 0x80, 0xAA, 0xEF, 0xF0, 0xFF, 0x48, 0xF7].map rev =
    [0x00#8, 0x80#8, 0x40#8, 0xC0#8, 0x20#8, 0xF0#8, 0x48#8, 0xAA#8, 0x01#8, 0x55#8, 0xF7#8, 0x0F#8, 0xFF#8, 0x12#8, 0xEF#8] := by
  decide

theorem test_rev_row_0 : (List.range 16).map rev =
    [0x00#8, 0x80#8, 0x40#8, 0xC0#8, 0x20#8, 0xA0#8, 0x60#8, 0xE0#8, 0x10#8, 0x90#8, 0x50#8, 0xD0#8, 0x30#8, 0xB0#8, 0x70#8, 0xF0#8] := by
  decide

theorem test_rev_row_9 : (List.range 16).map (fun c => rev (0x90 + c)) =
    [0x09#8, 0x89#8, 0x49#8, 0xC9#8, 0x29#8, 0xA9#8, 0x69#8, 0xE9#8, 0x19#8, 0x99#8, 0x59#8, 0xD9#8, 0x39#8, 0xB9#8, 0x79#8, 0xF9#8] := by
  decide

/-! The transform (V10 to V29, V29a to V29d): byte and bit. -/

def at16 (r : Rot) (x y : Int) : Nat × Nat := (pixelByte c16 r x y, pixelBit c16 r x y)
def at320 (r : Rot) (x y : Int) : Nat × Nat := (pixelByte c320 r x y, pixelBit c320 r x y)

theorem test_transform_16 :
    at16 .r0 15 0 = (1, 7) ∧ at16 .r0 0 2 = (4, 0) ∧ at16 .r0 1 2 = (4, 1) ∧
    at16 .r1 0 0 = (1, 7) ∧ at16 .r1 2 0 = (5, 7) ∧ at16 .r1 0 15 = (0, 0) ∧ at16 .r1 1 2 = (3, 5) ∧
    at16 .r2 0 0 = (5, 7) ∧ at16 .r2 15 0 = (4, 0) ∧ at16 .r2 1 2 = (1, 6) ∧
    at16 .r3 0 0 = (4, 0) ∧ at16 .r3 2 0 = (0, 0) ∧ at16 .r3 2 15 = (1, 7) ∧ at16 .r3 1 2 = (2, 2) := by decide

theorem test_transform_320 :
    at320 .r0 319 239 = (9599, 7) ∧ at320 .r0 1 2 = (80, 1) ∧ at320 .r1 239 0 = (9599, 7) ∧ at320 .r1 1 2 = (79, 5) ∧
    at320 .r2 319 0 = (9560, 0) ∧ at320 .r2 1 2 = (9519, 6) ∧ at320 .r3 0 319 = (9599, 7) ∧ at320 .r3 1 2 = (9520, 2) := by decide

/-! The commands, one step each. -/

/-- V19: `SETPIX 1, 2, 1` under rotation 1 sets bit 5 of byte 3. -/
theorem test_setpix_rotated :
    pbOf (exec (.setpix 1 2 1) { readyWith c16 dark6 with rot := .r1 }) =
      some [(0, 0x00#8), (1, 0x00#8), (2, 0x00#8), (3, 0x20#8), (4, 0x00#8), (5, 0x00#8)] := by decide

/-- V13, P4 (9): `SETPIX 15, 2, 0` on an all-light buffer clears bit 7 of byte 5. -/
theorem test_setpix_clears :
    pbOf (exec (.setpix 15 2 0) (readyWith c16 [0xFF#8, 0xFF#8, 0xFF#8, 0xFF#8, 0xFF#8, 0xFF#8])) =
      some (readyWith c16 rim6).pb := by decide

/-- 2.3: `GETPIX 15, 2` answers `(1, 0)` and `GETPIX 14, 2` answers `(1, 1)`. -/
theorem test_getpix :
    lastRsp (exec (.getpix 15 2) (readyWith c16 rim6)) = some (okRsp false) ∧
    lastRsp (exec (.getpix 14 2) (readyWith c16 rim6)) = some (okRsp true) := by decide

/-- V36, V38: out of range `GETPIX` reads dark and `SETPIX` changes nothing. -/
theorem test_out_of_range :
    lastRsp (exec (.getpix 16 2) (readyWith c16 rim6)) = some (okRsp false) ∧
    pbOf (exec (.setpix 0 16 0) { readyWith c16 rim6 with rot := .r1 }) = some (readyWith c16 rim6).pb := by decide

/-- V42: `CLRBUF` sets every byte to 0xFF and keeps `ROT` and `POL`. -/
theorem test_clrbuf :
    pbOf (exec .clrbuf { readyWith c16 bytes6 with rot := .r2, pol := false }) =
      some [(0, 0xFF#8), (1, 0xFF#8), (2, 0xFF#8), (3, 0xFF#8), (4, 0xFF#8), (5, 0xFF#8)] := by decide

/-- V83, V84: `INIT` from reset, and again. -/
theorem test_init :
    (nextOf (exec .init State.reset)).map (fun s => (s.ready, s.rot, s.pol)) = some (true, .r0, true) ∧
    lastRsp (exec .init v50) = some (noRsp .alreadyInit) := by decide

/-- V90: `INIT` without memories. -/
theorem test_init_alloc_fail : lastRsp (exec .init (State.start cNoMem 0)) = some (noRsp .allocFail) := by decide

/-- V85: `SETROT 1`, and the size the status ports then show. -/
theorem test_setrot :
    (nextOf (exec (.setrot .r1) v50)).map (fun s => (s.oRot, s.oWidth, s.oHeight)) = some (1#2, 3#16, 16#16) := by decide

/-- V80, V82: `NotReady`, no event. -/
theorem test_not_ready :
    lastRsp (exec (.setpix 0 0 1) State.reset) = some (noRsp .notReady) ∧
    (nextOf (exec .refresh State.reset)).map State.events = some [] := by decide

/-- V53: the start step of V50. -/
theorem test_refresh_start :
    (nextOf (exec .refresh v50)).map (fun s => ([s.busy, s.txn, s.scs, s.cmdReady, s.txValid], s.pos, s.txData)) =
      some ([true, true, true, false, true], 0, 0xC0#8) := by decide

/-- V60: `CLRREF` has cleared the buffer and offers the header `HDR0`. -/
theorem test_clrref_start :
    (nextOf (exec .clrref { v51 with pol := false })).map (fun s => (s.pb.map Prod.snd, s.txData)) =
      some ([0xFF#8, 0xFF#8, 0xFF#8, 0xFF#8, 0xFF#8, 0xFF#8], 0x80#8) := by decide

/-- V53: the finish step of V50. -/
theorem test_finish :
    (nextOf (step { v50Busy with pos := 11 })).map (fun s => ([s.scs, s.txn, s.pol, s.busy], s.pos, s.rsps)) =
      some ([false, false, false, false], 0, [okRsp false]) := by decide

/-- V53: a transport that is not ready at `POS = 4` leaves `POS = 4` and 0x40 on offer. -/
theorem test_stall :
    (nextOf (step { v50Busy with pos := 4, txRest := false })).map (fun s => (s.pos, s.txData, s.busy, s.rsps)) =
      some (4, 0x40#8, true, []) := by decide

/-! The frame (S1, V50, V51, V55, V56). -/

theorem test_frame_v50 : v50.frame =
    [0xC0#8, 0x80#8, 0x01#8, 0x02#8, 0x40#8, 0x03#8, 0x04#8, 0xC0#8, 0x05#8, 0x06#8, 0x00#8] := by decide

theorem test_chunks_v51 : v51.chunks =
    [[0xC0#8], [0x80#8, 0x01#8, 0x02#8], [0x40#8, 0x03#8, 0x04#8], [0xC0#8, 0x05#8, 0x06#8], [0x00#8]] := by decide

theorem test_frame_s1 :
    (readyWith c8 [0x00#8, 0x00#8]).frame = [0xC0#8, 0x80#8, 0x00#8, 0x40#8, 0x00#8, 0x00#8] ∧
    ({ readyWith c8 [0x00#8, 0x00#8] with pol := false } : State).frame =
      [0x80#8, 0x80#8, 0x00#8, 0x40#8, 0x00#8, 0x00#8] := by decide

/-- V55: other header parameters. -/
theorem test_frame_v55 :
    (readyWith { toParams := { paramsOf 8 2 .staged with cmdWrite := 0x01#8, polMask := 0x02#8 }, isLegal := by decide }
      [0x00#8, 0x00#8]).frame = [0x03#8, 0x80#8, 0x00#8, 0x40#8, 0x00#8, 0x00#8] := by decide

/-- V57, S8: line addresses of a tall panel, and its frame length. -/
theorem test_addresses_and_length :
    addrByte 254 = 0xFF#8 ∧ addrByte 127 = 0x01#8 ∧ addrByte 239 = 0x0F#8 ∧ addrByte 238 = 0xF7#8 ∧
    frameLen c320 = 9842 ∧ nbytes c320 = 9600 := by decide

/-- V50: `last(p)` of both strategies. -/
theorem test_last :
    (List.range 11).map (isLast c16) =
      [false, false, false, false, false, false, false, false, false, false, true] ∧
    (List.range 11).map (isLast c16s) =
      [true, false, false, true, false, false, true, false, false, true, true] := by decide

/-! The step as the host drives it. -/

/-- `INIT` presented right after reset is accepted and carried out. -/
theorem test_fetch_from_reset :
    (nextOf (step (State.reset.withFetchWord 56 0x01000000000000))).map (fun s => (s.ready, s.hostIn, s.rsps)) =
      some (true, [], [okRsp false]) := by decide

/-- V81: an illegal word before `INIT` is `Illegal`, not `NotReady`. -/
theorem test_illegal_before_ready :
    lastRsp (step (State.reset.withFetchWord 56 0)) = some (noRsp .illegal) := by decide

/-- R203: acts that present no word keep no run from being over, and a word left or a refresh in progress does. -/
theorem test_run_over :
    ({ v50 with hostIn := [.pause, .pause] } : State).runOver = true ∧ v50.runOver = true ∧
    ({ v50 with hostIn := [.pause, .word 0x01000000000000#56] } : State).runOver = false ∧ v50Busy.runOver = false := by decide

/-- A byte step of V51 at a byte flagged `last` emits the send. -/
theorem test_byte_step_last :
    (nextOf (step v51Busy)).map (fun s => (s.pos, s.chunk, s.events.getLast?)) =
      some (1, [], some (.send [0xC0#8])) := by decide

/-! WITNESSES. For each statement with hypotheses, concrete states and operands that meet all of them together; where a statement has
several clauses, one for each, at a boundary value. -/

/-- V50 with a word and more at the command port. -/
def fed (s : State) (acts : List HostAct) : State := { s with hostIn := acts }

theorem test_wit_OpcodeMapIsUnambiguous :
    (⟨.setpix, 0x10000000000000#56, 0xFF000000000000#56⟩ : OpcodeRow) ∈ opcodeTable ∧
    (0x10000A00010001#56 &&& 0xFF000000000000#56 = (0x10000000000000#56 : CmdWord)) ∧
    decode 0x10000A00010001#56 = .ok (.setpix 10 1 1) := ⟨by decide, by decide, rfl⟩

theorem test_wit_DecodeEncodeRoundTrip :
    Instr.wellFormed (.setpix 32767 (-32768) 65535) = true ∧ Instr.wellFormed (.getpix (-32768) 32767) = true ∧
    Instr.wellFormed (.setrot .r3) = true ∧ Instr.wellFormed .refresh = true := by decide

theorem test_wit_EncodeDecodeRoundTrip : decode 0x10800000000001#56 = .ok (.setpix (-32768) 0 1) := rfl

theorem test_wit_SignednessChangesNoOutcome :
    InRange c16 .r0 (coordOfField 0x000F#16) (coordOfField 0x0002#16) ∧
    ¬ InRange c16 .r0 (coordOfField 0xFFFF#16) (coordOfField 0x0002#16) := by decide

theorem test_wit_StepRunsDecodedWord :
    (fed v50 [.word 0x11000F00020000#56]).busy = false ∧
    (fed v50 [.word 0x11000F00020000#56]).hostIn = .word 0x11000F00020000#56 :: [] ∧
    decode 0x11000F00020000#56 = .ok (.getpix 15 2) := ⟨rfl, rfl, rfl⟩

theorem test_wit_IllegalWordRejected :
    (fed State.reset [.word 0#56]).busy = false ∧ (fed State.reset [.word 0#56]).hostIn = .word 0#56 :: [] ∧
    decode 0#56 = .error (.unassignedOpcode 0x00#8) := ⟨rfl, rfl, rfl⟩

theorem test_wit_RefreshAcceptsNoWord :
    ∃ t, (fed v50Busy [.word 0x20000000000000#56]).busy = true ∧ step (fed v50Busy [.word 0x20000000000000#56]) = .next t :=
  ⟨_, rfl, rfl⟩

theorem test_wit_NoWordNothingHappens :
    (v50.busy = false ∧ v50.hostIn = []) ∧ ((fed v50 [.pause]).busy = false ∧ (fed v50 [.pause]).hostIn = .pause :: []) ∧
    ∃ t, (fed v50 [.pause, .pause]).runOver = true ∧ step (fed v50 [.pause, .pause]) = .next t :=
  ⟨⟨rfl, rfl⟩, ⟨rfl, rfl⟩, _, rfl, rfl⟩

theorem test_wit_StepRefusesOnlyReset :
    (fed v50Busy [.rst]).hostIn.head? = some .rst ∧ step (fed v50Busy [.rst]) = .refused .resetInRun := ⟨rfl, rfl⟩

theorem test_wit_InitBringsIntoService : State.reset.Uninitialised ∧ State.reset.cfg.allocOk = true := ⟨⟨rfl, rfl⟩, rfl⟩

theorem test_wit_InitRejections :
    v50.Ready ∧ (State.start cNoMem 0).Uninitialised ∧ (State.start cNoMem 0).cfg.allocOk = false :=
  ⟨⟨rfl, rfl⟩, ⟨rfl, rfl⟩, rfl⟩

theorem test_wit_SetrotWritesRotationOnly : v50.Ready := ⟨rfl, rfl⟩

theorem test_wit_StatusPortsShowLogicalSize :
    (v50.rot = .r0 ∨ v50.rot = .r2) ∧
    (({ v50 with rot := .r3 } : State).rot = .r1 ∨ ({ v50 with rot := .r3 } : State).rot = .r3) := by decide

theorem test_wit_NotReadyRejectsAllButInit : State.reset.Uninitialised ∧ Instr.refresh ≠ .init := ⟨⟨rfl, rfl⟩, by decide⟩

theorem test_wit_RejectionChangesNothing :
    ∃ t r, step (fed State.reset [.word 0x30000000000000#56]) = .next t ∧
      t.rsps = (fed State.reset [.word 0x30000000000000#56]).rsps ++ [r] ∧ r.ok = false :=
  ⟨_, noRsp .notReady, rfl, rfl, rfl⟩

theorem test_wit_TransformClosedForms :
    InRange c16 .r0 15 2 ∧ InRange c16 .r1 2 15 ∧ InRange c16 .r2 0 0 ∧ InRange c16 .r3 2 0 := by decide

theorem test_wit_TransformIsBijection :
    InRange c16 .r1 2 15 ∧ (15 < c16.width ∧ 2 < c16.height) ∧ (InRange c16 .r3 0 15 ∧ InRange c16 .r3 (0 + 0) (16 - 1) ∧
      pixelByte c16 .r3 0 15 = pixelByte c16 .r3 (0 + 0) (16 - 1) ∧
      pixelBit c16 .r3 0 15 = pixelBit c16 .r3 (0 + 0) (16 - 1)) := by decide

theorem test_wit_BufferIndexInsideBuffer : InRange c16 .r2 0 0 ∧ pixelByte c16 .r2 0 0 = 5 := by decide

theorem test_wit_MasksArePowersOfTwo : 0 < 8 ∧ 7 < 8 := by decide

theorem test_wit_ReversalTableIsInvolution : 0 < 256 ∧ 255 < 256 := by decide

theorem test_wit_SetpixWritesOneBit : v50.Ready ∧ InRange v50.cfg v50.rot 15 2 := ⟨⟨rfl, rfl⟩, by decide⟩

theorem test_wit_OutOfRangeIsIgnored :
    v50.Ready ∧ ¬ InRange v50.cfg v50.rot 16 0 ∧ ¬ InRange v50.cfg v50.rot (-1) 0 ∧ ¬ InRange v50.cfg v50.rot 0 3 :=
  ⟨⟨rfl, rfl⟩, by decide, by decide, by decide⟩

theorem test_wit_GetpixReadsTheBit : v50.Ready ∧ InRange v50.cfg v50.rot 0 0 := ⟨⟨rfl, rfl⟩, by decide⟩

theorem test_wit_SetpixThenGetpix :
    ({ v50 with rot := .r1 } : State).Ready ∧ InRange v50.cfg .r1 2 15 := ⟨⟨rfl, rfl⟩, by decide⟩

theorem test_wit_SetpixDoesNotInterfere :
    (v50.Ready ∧ InRange v50.cfg v50.rot 15 2 ∧ InRange v50.cfg v50.rot 14 2 ∧ ((15 : Int), (2 : Int)) ≠ (14, 2)) ∧
    (v50.Ready ∧ ¬ InRange v50.cfg v50.rot 16 0) :=
  ⟨⟨⟨rfl, rfl⟩, by decide, by decide, by decide⟩, ⟨rfl, rfl⟩, by decide⟩

theorem test_wit_ClrbufFillsWithLight : v50.Ready ∧ 5 < nbytes v50.cfg ∧ ¬ 6 < nbytes v50.cfg := ⟨⟨rfl, rfl⟩, by decide, by decide⟩

theorem test_wit_AfterClearEveryPixelIsLight : v50.Ready ∧ InRange v50.cfg .r3 2 15 ∧ ¬ InRange v50.cfg .r3 3 0 :=
  ⟨⟨rfl, rfl⟩, by decide, by decide⟩

theorem test_wit_RotationIsAView_commands :
    ({ v50 with rot := .r1 } : State).Ready ∧ InRange v50.cfg .r1 1 2 ∧ InRange v50.cfg .r0 13 1 ∧ InRange v50.cfg .r0 15 2 ∧
    ((13 : Int), (1 : Int)) = logi v50.cfg .r0 (phys v50.cfg .r1 1 2).1 (phys v50.cfg .r1 1 2).2 ∧
    ((15 : Int), (2 : Int)) ≠ logi v50.cfg .r0 (phys v50.cfg .r1 1 2).1 (phys v50.cfg .r1 1 2).2 :=
  ⟨⟨rfl, rfl⟩, by decide⟩

theorem test_wit_RotationIsAView :
    InRange c16 .r1 1 2 ∧ InRange c16 .r0 13 1 ∧ logi c16 .r0 (phys c16 .r1 1 2).1 (phys c16 .r1 1 2).2 = (13, 1) := by decide

theorem test_wit_PositionDecomposition :
    phaseOf c16 0 = .hdr ∧ phaseOf c16 10 = .term ∧ phaseOf c16 1 = .addr 0 ∧ phaseOf c16 7 = .addr 2 ∧
    phaseOf c16 2 = .data 0 0 ∧ phaseOf c16 9 = .data 2 1 ∧ 10 < frameLen c16 ∧ phaseOf c16 9 = phaseOf c16 (10 - 1) := by decide

theorem test_wit_RefreshEventsCarryTheFrame : v50.cfg.strategy = .staged ∧ v51.cfg.strategy = .streaming := ⟨rfl, rfl⟩

theorem test_wit_FrameReadsBack : 15 < v50.cfg.width ∧ 2 < v50.cfg.height ∧ InRange v50.cfg .r1 2 15 := by decide

theorem test_wit_FrameDependsOnBufferAndPolarityOnly :
    v50.cfg = ({ v50 with rot := .r1, rsps := [okRsp true] } : State).cfg ∧
    v50.pol = ({ v50 with rot := .r1, rsps := [okRsp true] } : State).pol ∧
    ∀ a, a < nbytes v50.cfg → v50.pbByte a = ({ v50 with rot := .r1, rsps := [okRsp true] } : State).pbByte a :=
  ⟨rfl, rfl, fun _ _ => rfl⟩

theorem test_wit_RefreshStarts : (v50.Ready ∧ v50.cfg.strategy = .staged) ∧ v51.Ready ∧ v51.cfg.strategy = .streaming :=
  ⟨⟨⟨rfl, rfl⟩, rfl⟩, ⟨rfl, rfl⟩, rfl⟩

theorem test_wit_ClrrefClearsAndStarts :
    (v50.Ready ∧ v50.cfg.strategy = .staged ∧ 5 < nbytes v50.cfg ∧ ¬ 6 < nbytes v50.cfg ∧ 10 < frameLen v50.cfg) ∧
    v51.Ready ∧ v51.cfg.strategy = .streaming :=
  ⟨⟨⟨rfl, rfl⟩, rfl, by decide, by decide, by decide⟩, ⟨rfl, rfl⟩, rfl⟩

theorem test_wit_ClrrefIsClrbufThenRefresh : v51.Ready := ⟨rfl, rfl⟩

theorem test_wit_ByteStepHandsOverOneByte :
    (v50Busy.busy = true ∧ v50Busy.NoRst ∧ v50Busy.pos < frameLen v50Busy.cfg ∧ v50Busy.txReady = true) ∧
    ({ v50Busy with pos := 10 } : State).NoRst ∧ ({ v50Busy with pos := 10 } : State).txLast = true ∧
    10 < frameLen v50Busy.cfg :=
  ⟨⟨rfl, by unfold State.NoRst; decide, by decide, rfl⟩, by unfold State.NoRst; decide, by decide, by decide⟩

theorem test_wit_LastFlagsEndTheChunks :
    (c16.strategy = .staged ∧ isLast c16 10 = true ∧ isLast c16 0 = false) ∧
    (c16s.strategy = .streaming ∧ isLast c16s 0 = true ∧ isLast c16s 9 = true ∧ isLast c16s 10 = true) ∧
    10 < frameLen c16 := by decide

/-- The state after the start step of V50 meets the invariants. -/
theorem test_wit_inv_busy : v50Busy.Inv := by
  refine ⟨by unfold State.PosBounded; decide, by intro h; exact absurd h (by decide), fun _ => ⟨rfl, rfl⟩, fun _ => ⟨rfl, rfl⟩,
    fun _ => rfl, fun _ => rfl, ⟨⟨by decide, by decide⟩, ⟨by decide, by decide⟩, fun h => absurd h (by decide)⟩,
    by unfold State.PolarityIsParity; decide, fun _ _ => by decide, fun _ h => absurd h (by decide)⟩

theorem test_wit_OfferedByteIsFrameByte : v50Busy.Inv ∧ v50Busy.txValid = true := ⟨test_wit_inv_busy, by decide⟩

/-- V53's stalled transport. -/
def v50Stalled : State := { v50Busy with pos := 4, txIn := [⟨false, 0x00#8⟩], txRest := false }

theorem test_wit_StalledTransportHangsTheRefresh :
    v50Stalled.busy = true ∧ v50Stalled.NoRst ∧ v50Stalled.pos < frameLen v50Stalled.cfg ∧ v50Stalled.txReady = false ∧
    v50Stalled.transportStalled :=
  ⟨rfl, by unfold State.NoRst; decide, by decide, rfl, by unfold State.transportStalled; decide⟩

theorem test_wit_FinishStep :
    ({ v50Busy with pos := 11 } : State).busy = true ∧ ({ v50Busy with pos := 11 } : State).NoRst ∧
    ({ v50Busy with pos := 11 } : State).pos = frameLen v50Busy.cfg :=
  ⟨rfl, by unfold State.NoRst; decide, by decide⟩

theorem test_wit_RefreshRunsToItsEnd :
    (v50.Ready ∧ v50.NoRst ∧ v50.txIn = [] ∧ v50.txRest = true) ∧ 5 < nbytes v50.cfg ∧ ¬ 6 < nbytes v50.cfg :=
  ⟨⟨⟨rfl, rfl⟩, by unfold State.NoRst; decide, rfl, rfl⟩, by decide⟩

theorem test_wit_RefreshEndsUnderFairness :
    ({ v50 with txIn := [⟨false, 0x00#8⟩, ⟨true, 0x55#8⟩] } : State).Ready ∧
    ({ v50 with txIn := [⟨false, 0x00#8⟩, ⟨true, 0x55#8⟩] } : State).NoRst ∧ v50.txRest = true :=
  ⟨⟨rfl, rfl⟩, by unfold State.NoRst; decide, rfl⟩

theorem test_wit_ReceivedBytesAffectNothing :
    ∃ t, [(⟨true, 0x55#8⟩ : TxMoment)].map TxMoment.ready =
        ({ v50Busy with txIn := [⟨true, 0x00#8⟩] } : State).txIn.map TxMoment.ready ∧
      step { v50Busy with txIn := [⟨true, 0x00#8⟩] } = .next t :=
  ⟨_, rfl, rfl⟩

theorem test_wit_StepKeepsInvariants : ∃ t, v50Busy.Inv ∧ step v50Busy = .next t := ⟨_, test_wit_inv_busy, rfl⟩

theorem test_wit_NoFaultFromInvariants : v50Busy.Inv := test_wit_inv_busy

theorem test_wit_PolarityChangesOnlyAtFinish :
    (∃ t, step { v50Busy with pos := 11 } = .next t ∧ t.pol ≠ v50Busy.pol ∧ (v50Busy.busy = true ∧ 11 = frameLen v50Busy.cfg)) ∧
    ∃ t, step v50Busy = .next t ∧ t.pol = v50Busy.pol :=
  ⟨⟨_, rfl, by decide, rfl, by decide⟩, _, rfl, rfl⟩

theorem test_wit_ParametersAndReadyAreStable :
    (∃ t, step v50Busy = .next t ∧ v50Busy.ready = true) ∧
    ∃ t, step (fed (State.start cNoMem 0) [.word 0x01000000000000#56]) = .next t ∧
      (State.start cNoMem 0).ready = false ∧ (State.start cNoMem 0).cfg.allocOk = false :=
  ⟨⟨_, rfl, rfl⟩, _, rfl, rfl, rfl⟩

/-- V50 with one word presented. -/
def v50Word (cw : CmdWord) : State := fed v50 [.word cw]

theorem test_wit_BufferChangesOnlyByWritingCommands :
    (∃ t, step (v50Word 0x10000F00020001#56) = .next t ∧ t.pb ≠ v50.pb) ∧
    (∃ t, step (v50Word 0x20000000000000#56) = .next t ∧ t.pb ≠ v50.pb) ∧
    ∃ t, step (v50Word 0x21000000000000#56) = .next t ∧ t.pb ≠ v50.pb :=
  ⟨⟨_, rfl, by decide⟩, ⟨_, rfl, by decide⟩, _, rfl, by decide⟩

theorem test_wit_OneResponsePerWord :
    (∃ t, step v50Busy = .next t ∧ v50Busy.busy = true) ∧
    (∃ t, step (v50Word 0x30000000000000#56) = .next t ∧ (v50Word 0x30000000000000#56).busy = false ∧
      (v50Word 0x30000000000000#56).hostIn = .word 0x30000000000000#56 :: []) ∧
    (∃ t, step (v50Word 0x02000000000001#56) = .next t ∧ (v50Word 0x02000000000001#56).busy = false ∧
      (v50Word 0x02000000000001#56).hostIn = .word 0x02000000000001#56 :: []) ∧
    ∃ t, step (fed v50 [.pause]) = .next t ∧ (fed v50 [.pause]).busy = false ∧
      ∀ (cw : CmdWord) (rest : List HostAct), (fed v50 [.pause]).hostIn ≠ .word cw :: rest :=
  ⟨⟨_, rfl, rfl⟩, ⟨_, rfl, rfl, rfl⟩, ⟨_, rfl, rfl, rfl⟩, _, rfl, rfl, fun _ _ h => by simp [fed] at h⟩

theorem test_wit_EqualMemoriesAreEqualData :
    Memory.wf (Memory.write [(5, 0x02#8)] 0 0x01#8) = true ∧ Memory.wf (Memory.write [(0, 0x01#8)] 5 0x02#8) = true ∧
    ∀ a, Memory.get? (Memory.write [(5, 0x02#8)] 0 0x01#8) a = Memory.get? (Memory.write [(0, 0x01#8)] 5 0x02#8) a :=
  ⟨by decide, by decide, fun _ => rfl⟩

end Sys2Proof.Tests
end

section
/-! PROOFS. The scope family (`00_scope.md`): the length of the frame, the polarity bit of its header, the events of one
refresh, and what no step changes. -/

namespace Sys2Proof.Machine

/-! The length of the frame (R76). -/

@[simp] theorem State.length_frame (s : State) : s.frame.length = frameLen s.cfg := by simp [State.frame]

/-- Every line spends one byte of the frame on its address, and header and terminator are two more (R76). -/
theorem frameLen_eq_nbytes (c : Instance) : frameLen c = nbytes c + c.height + 2 := by
  rw [frameLen, nbytes, Nat.mul_add]
  omega

/-- The buffer holds one bit per pixel (R6). -/
theorem nbytes_mul_eight (c : Instance) : nbytes c * 8 = c.width * c.height := by
  rw [width_eq c, nbytes, Nat.mul_comm (8 * bpl c), Nat.mul_comm 8, Nat.mul_assoc]

/-- Settles O37: the length is `FRAME_LEN` by construction; the other two forms are arithmetic on `W = 8 * BPL`. -/
theorem frameLength : Obligations.FrameLength := fun s =>
  ⟨s.length_frame, s.length_frame.trans (frameLen_eq_nbytes s.cfg), nbytes_mul_eight s.cfg⟩

/-! The header (R71, R114, R136). -/

@[simp] theorem headerByte_true (c : Instance) : headerByte c true = c.cmdWrite ||| c.polMask := rfl

@[simp] theorem headerByte_false (c : Instance) : headerByte c false = c.cmdWrite := by simp [headerByte, polByte]

/-- The bits that joining a disjoint mask adds are the mask's. -/
theorem or_xor_of_and_eq_zero {w : Nat} {a m : BitVec w} (h : a &&& m = 0#w) : (a ||| m) ^^^ a = m := by
  ext k hk
  have hbit : (a[k] && m[k]) = false := by simpa using congrArg (fun v => v[k]) h
  cases ha : a[k] <;> simp_all

/-- Masking a byte to which the mask was joined gives the mask. -/
theorem or_and_of_and_eq_zero {w : Nat} {a m : BitVec w} (h : a &&& m = 0#w) : (a ||| m) &&& m = m := by
  simp [BitVec.and_or_distrib_right, h]

/-- The headers of the two polarities differ exactly in the polarity bit (R136). -/
theorem headerByte_xor_not (c : Instance) (pol : Bool) : headerByte c pol ^^^ headerByte c (!pol) = c.polMask := by
  have h := or_xor_of_and_eq_zero (cmdWrite_and_polMask c)
  cases pol with
  | true => simpa using h
  | false => simpa [BitVec.xor_comm] using h

/-- The polarity bit read back from a header (R117, R141). -/
theorem headerByte_and_polMask (c : Instance) (pol : Bool) :
    headerByte c pol &&& c.polMask = if pol then c.polMask else 0#8 := by
  cases pol with
  | true => simpa using or_and_of_and_eq_zero (cmdWrite_and_polMask c)
  | false => simpa using cmdWrite_and_polMask c

/-- Settles O39: `CMD_WRITE` and `POL_MASK` share no bit (R9), and `POL_MASK` is not zero. -/
theorem headersDifferInPolarityBit : Obligations.HeadersDifferInPolarityBit := by
  intro c pol
  refine ⟨headerByte_xor_not c pol, ?_⟩
  rw [headerByte_and_polMask]
  cases pol <;> simp [polMask_ne_zero c]

/-! The frame, line by line (R112, R113). -/

/-- Byte `j` of the record of line `i`: its address byte first, then its data bytes (R112). -/
theorem phaseOf_line (c : Instance) {i j : Nat} (hi : i < c.height) (hj : j < bpl c + 1) :
    phaseOf c (1 + (i * (bpl c + 1) + j)) = if j = 0 then .addr i else .data i (j - 1) := by
  have hline : i * (bpl c + 1) + j < c.height * (bpl c + 1) := by
    calc i * (bpl c + 1) + j < (i + 1) * (bpl c + 1) := by rw [Nat.succ_mul]; omega
      _ ≤ c.height * (bpl c + 1) := Nat.mul_le_mul_right _ hi
  have hlen : frameLen c - 1 = 1 + c.height * (bpl c + 1) := by simp [frameLen, Nat.add_comm 1 (bpl c)]
  have hdiv : (i * (bpl c + 1) + j) / (bpl c + 1) = i := by
    rw [Nat.mul_comm, Nat.mul_add_div (Nat.succ_pos _), Nat.div_eq_of_lt hj, Nat.add_zero]
  have hmod : (i * (bpl c + 1) + j) % (bpl c + 1) = j := by
    rw [Nat.mul_comm, Nat.mul_add_mod, Nat.mod_eq_of_lt hj]
  rw [phaseOf, hlen, if_neg (by omega), if_neg (by omega), Nat.add_sub_cancel_left, Nat.add_comm 1 (bpl c), hdiv, hmod]

/-- The first frame byte is the header (R113). -/
@[simp] theorem State.frameByte_zero (s : State) : s.frameByte 0 = headerByte s.cfg s.pol := by
  simp [State.frameByte, phaseOf_zero]

/-- The last frame byte is the terminator (R113). -/
theorem State.frameByte_last (s : State) : s.frameByte (1 + s.cfg.height * (bpl s.cfg + 1)) = 0x00#8 := by
  have h := phaseOf_last s.cfg
  rw [frameLen, Nat.add_sub_cancel, Nat.add_comm 1 (bpl s.cfg)] at h
  simp [State.frameByte, h]

/-- The frame bytes of line `i` are its line record (R113, R115). -/
theorem State.map_frameByte_line (s : State) {i : Nat} (hi : i < s.cfg.height) :
    (List.range (bpl s.cfg + 1)).map (fun j => s.frameByte (1 + (i * (bpl s.cfg + 1) + j))) = s.lineRecord i := by
  have hbyte : ∀ j < bpl s.cfg + 1, s.frameByte (1 + (i * (bpl s.cfg + 1) + j)) =
      if j = 0 then addrByte i else s.pbByte (i * bpl s.cfg + (j - 1)) := by
    intro j hj
    rw [State.frameByte, phaseOf_line s.cfg hi hj]
    by_cases h0 : j = 0 <;> simp [h0]
  rw [List.map_congr_left (fun j hj => hbyte j (List.mem_range.mp hj)), List.range_succ_eq_map, State.lineRecord]
  simp [Function.comp_def]

/-- Listing `n` blocks of `k` values each lists the first `n * k` values. -/
theorem map_range_mul {α : Type} (f : Nat → α) (n k : Nat) :
    (List.range (n * k)).map f = (List.range n).flatMap (fun i => (List.range k).map (fun j => f (i * k + j))) := by
  induction n with
  | zero => simp
  | succ n ih => simp [Nat.succ_mul, List.range_add, List.range_succ, ih, Function.comp_def]

/-- The frame is its header, the records of its lines and its terminator (R113). -/
theorem State.frame_eq_lineRecords (s : State) :
    s.frame = [headerByte s.cfg s.pol] ++ (List.range s.cfg.height).flatMap s.lineRecord ++ [0x00#8] := by
  have hlines : (List.range (s.cfg.height * (bpl s.cfg + 1))).map (fun q => s.frameByte (1 + q)) =
      (List.range s.cfg.height).flatMap s.lineRecord := by
    rw [map_range_mul, List.flatMap_def, List.flatMap_def,
      List.map_congr_left (fun i hi => s.map_frameByte_line (List.mem_range.mp hi))]
  rw [State.frame, frameLen, Nat.add_comm 1 (bpl s.cfg), List.range_succ, List.range_add]
  simp [← hlines, s.frameByte_last, Function.comp_def]

/-! The sends of one refresh (R118, R119). -/

theorem State.chunks_staged (s : State) (h : s.cfg.strategy = .staged) : s.chunks = [s.frame] := by
  simp [State.chunks, h]

theorem State.chunks_streaming (s : State) (h : s.cfg.strategy = .streaming) :
    s.chunks = [[headerByte s.cfg s.pol]] ++ (List.range s.cfg.height).map s.lineRecord ++ [[0x00#8]] := by
  simp [State.chunks, h]

theorem State.frame_ne_nil (s : State) : s.frame ≠ [] := by
  simp [s.frame_eq_lineRecords]

/-- No send of a refresh is empty (R177). -/
theorem State.ne_nil_of_mem_chunks (s : State) {bytes : List Byte} (h : bytes ∈ s.chunks) : bytes ≠ [] := by
  cases hst : s.cfg.strategy with
  | staged =>
    rw [s.chunks_staged hst, List.mem_singleton] at h
    exact h ▸ s.frame_ne_nil
  | streaming =>
    simp only [s.chunks_streaming hst, List.mem_append, List.mem_singleton, List.mem_map] at h
    obtain (rfl | ⟨i, -, rfl⟩) | rfl := h <;> simp [State.lineRecord]

/-- The sends carry exactly the frame, whatever the strategy (R118, R119). -/
theorem State.flatten_chunks (s : State) : s.chunks.flatten = s.frame := by
  cases hst : s.cfg.strategy with
  | staged => simp [s.chunks_staged hst]
  | streaming => simp [s.chunks_streaming hst, s.frame_eq_lineRecords, List.flatMap_def]

/-- The bytes of consecutive events are consecutive (R16). -/
theorem flattenEvents_append (es fs : List TxEvent) : flattenEvents (es ++ fs) = flattenEvents es ++ flattenEvents fs := by
  induction es with
  | nil => rfl
  | cons e es ih => cases e <;> simp [flattenEvents, ih]

theorem flattenEvents_map_send (sends : List (List Byte)) : flattenEvents (sends.map TxEvent.send) = sends.flatten := by
  induction sends with
  | nil => rfl
  | cons bytes sends ih => simp [flattenEvents, ih]

/-- The bytes of one refresh are the frame (R120). -/
theorem State.flattenEvents_refreshEvents (s : State) : flattenEvents s.refreshEvents = s.frame := by
  rw [State.refreshEvents, flattenEvents_append, flattenEvents_append, flattenEvents_map_send, s.flatten_chunks]
  simp [flattenEvents]

/-- Settles O40: the sends are the chunks of the strategy, and cutting the frame line by line loses no byte of it. -/
theorem refreshEventsCarryTheFrame : Obligations.RefreshEventsCarryTheFrame := fun s =>
  ⟨⟨s.chunks, rfl,
    fun h => by simp [s.chunks_staged h],
    fun h => by simp [s.chunks_streaming h],
    fun _ => s.ne_nil_of_mem_chunks⟩,
   s.flattenEvents_refreshEvents⟩

/-! What each command can answer (R166, R171). -/

/-- A command whose effect is one next state either has it, or is rejected `NotReady` (R166 (3)). -/
theorem admitCommand_next_next_cases {s t u : State} (h : admitCommand s (.next u) = .next t) :
    s.busy = false ∧ ((s.ready = true ∧ t = u) ∨ (s.ready = false ∧ t = s.reject .notReady)) := by
  obtain ⟨hb, ⟨hr, ho⟩ | hrej⟩ := admitCommand_next_cases h
  · exact ⟨hb, .inl ⟨hr, (Host.Outcome.next.inj ho).symm⟩⟩
  · exact ⟨hb, .inr hrej⟩

/-- Everything `INIT` can answer with a next state (R146, R166 (2)). -/
theorem execInit_next_cases {s t : State} (h : execInit s = .next t) :
    s.busy = false ∧
      ((s.ready = true ∧ t = s.reject .alreadyInit) ∨
       (s.ready = false ∧ s.cfg.allocOk = true ∧ t = ((s.setReady true).setRot .r0).respond false) ∨
       (s.ready = false ∧ s.cfg.allocOk = false ∧ t = s.reject .allocFail)) := by
  obtain ⟨hb, hrej | ⟨hr, ha, ho⟩ | hrej⟩ := admitInit_next_cases h
  · exact ⟨hb, .inl hrej⟩
  · exact ⟨hb, .inr (.inl ⟨hr, ha, (Host.Outcome.next.inj ho).symm⟩)⟩
  · exact ⟨hb, .inr (.inr hrej)⟩

/-- Everything `SETPIX` can answer with a next state (R91, R95). -/
theorem execSetpix_next_cases {s t : State} {x y : Int} {colour : Nat} (h : execSetpix x y colour s = .next t) :
    s.busy = false ∧
      ((s.ready = true ∧ InRange s.cfg s.rot x y ∧
          t = (s.setPb (Memory.write s.pb (pixelByte s.cfg s.rot x y)
            (putPixel (s.pbByte (pixelByte s.cfg s.rot x y)) (pixelBit s.cfg s.rot x y) colour))).respond false) ∨
       (s.ready = true ∧ ¬ InRange s.cfg s.rot x y ∧ t = s.respond false) ∨
       (s.ready = false ∧ t = s.reject .notReady)) := by
  obtain ⟨hb, ⟨hr, ho⟩ | hrej⟩ := admitCommand_next_cases h
  · refine ⟨hb, ?_⟩
    by_cases hin : InRange s.cfg s.rot x y
    · rw [if_pos hin] at ho
      cases hw : s.writePixel (pixelByte s.cfg s.rot x y) (pixelBit s.cfg s.rot x y) colour with
      | error f => simp [hw] at ho
      | ok s' =>
        obtain ⟨-, rfl⟩ := writePixel_ok_cases hw
        exact .inl ⟨hr, hin, by simpa [hw] using ho.symm⟩
    · rw [if_neg hin] at ho
      exact .inr (.inl ⟨hr, hin, (Host.Outcome.next.inj ho).symm⟩)
  · exact ⟨hb, .inr (.inr hrej)⟩

/-- Everything `GETPIX` can answer with a next state: it answers, and does nothing else (R91, R96). -/
theorem execGetpix_next_cases {s t : State} {x y : Int} (h : execGetpix x y s = .next t) :
    s.busy = false ∧
      ((s.ready = true ∧ ∃ val, t = s.respond val) ∨ (s.ready = false ∧ t = s.reject .notReady)) := by
  obtain ⟨hb, ⟨hr, ho⟩ | hrej⟩ := admitCommand_next_cases h
  · refine ⟨hb, .inl ⟨hr, ?_⟩⟩
    by_cases hin : InRange s.cfg s.rot x y
    · rw [if_pos hin] at ho
      cases hm : s.memRead (pixelByte s.cfg s.rot x y) with
      | error f => simp [hm] at ho
      | ok byte => exact ⟨_, by simpa [hm] using ho.symm⟩
    · rw [if_neg hin] at ho
      exact ⟨_, (Host.Outcome.next.inj ho).symm⟩
  · exact ⟨hb, .inr hrej⟩

/-! The parameters and `READY` (R6, R23, R145, R150). -/

@[simp] theorem State.startRefresh_cfg (s : State) : s.startRefresh.cfg = s.cfg := by rw [startRefresh_eq]

@[simp] theorem State.startRefresh_ready (s : State) : s.startRefresh.ready = s.ready := by rw [startRefresh_eq]

@[simp] theorem State.clearPb_cfg (s : State) : s.clearPb.cfg = s.cfg := rfl

@[simp] theorem State.clearPb_ready (s : State) : s.clearPb.ready = s.ready := rfl

@[simp] theorem State.passMoment_cfg (s : State) : s.passMoment.cfg = s.cfg := rfl

@[simp] theorem State.passMoment_ready (s : State) : s.passMoment.ready = s.ready := rfl

@[simp] theorem State.takeByte_cfg (s : State) : s.takeByte.cfg = s.cfg := by rw [takeByte_eq]

@[simp] theorem State.takeByte_ready (s : State) : s.takeByte.ready = s.ready := by rw [takeByte_eq]

@[simp] theorem State.finishRefresh_cfg (s : State) : s.finishRefresh.cfg = s.cfg := by rw [finishRefresh_eq]

@[simp] theorem State.finishRefresh_ready (s : State) : s.finishRefresh.ready = s.ready := by rw [finishRefresh_eq]

/-- A command other than `INIT` writes neither the parameters nor `READY` (R23). -/
theorem exec_keeps_cfg_ready {i : Instr} {s t : State} (hi : i ≠ .init) (h : exec i s = .next t) :
    t.cfg = s.cfg ∧ t.ready = s.ready := by
  cases i with
  | init => exact absurd rfl hi
  | setrot r => obtain ⟨-, ⟨-, rfl⟩ | ⟨-, rfl⟩⟩ := admitCommand_next_next_cases h <;> simp
  | setpix x y colour => obtain ⟨-, ⟨-, -, rfl⟩ | ⟨-, -, rfl⟩ | ⟨-, rfl⟩⟩ := execSetpix_next_cases h <;> simp
  | getpix x y => obtain ⟨-, ⟨-, val, rfl⟩ | ⟨-, rfl⟩⟩ := execGetpix_next_cases h <;> simp
  | clrbuf => obtain ⟨-, ⟨-, rfl⟩ | ⟨-, rfl⟩⟩ := admitCommand_next_next_cases h <;> simp
  | clrref => obtain ⟨-, ⟨-, rfl⟩ | ⟨-, rfl⟩⟩ := admitCommand_next_next_cases h <;> simp
  | refresh => obtain ⟨-, ⟨-, rfl⟩ | ⟨-, rfl⟩⟩ := admitCommand_next_next_cases h <;> simp

/-- A step of the sequencer writes neither the parameters nor `READY` (R123 to R125). -/
theorem sequencerStep_keeps_cfg_ready {s t : State} (h : sequencerStep s = .next t) :
    t.cfg = s.cfg ∧ t.ready = s.ready := by
  obtain ⟨-, -, rfl⟩ | ⟨-, -, rfl⟩ | ⟨-, rfl⟩ := sequencerStep_next_cases h <;> simp

/-- `READY` is written by one thing only, an `INIT` that the memories allow (R23, R146). -/
theorem exec_cfg_ready {i : Instr} {s t : State} (h : exec i s = .next t) :
    t.cfg = s.cfg ∧ (t.ready = s.ready ∨ (s.cfg.allocOk = true ∧ t.ready = true)) := by
  by_cases hi : i = .init
  · subst hi
    obtain ⟨-, ⟨-, rfl⟩ | ⟨-, ha, rfl⟩ | ⟨-, -, rfl⟩⟩ := execInit_next_cases h
    · simp
    · simp [ha]
    · simp
  · obtain ⟨hcfg, hready⟩ := exec_keeps_cfg_ready hi h
    exact ⟨hcfg, .inl hready⟩

/-- A step keeps the parameters, and changes `READY` only to 1 and only with the memories there (R6, R23, R145). -/
theorem step_cfg_ready {s t : State} (h : step s = .next t) :
    t.cfg = s.cfg ∧ (t.ready = s.ready ∨ (s.cfg.allocOk = true ∧ t.ready = true)) := by
  obtain ⟨-, -, hseq⟩ | ⟨-, -, rfl⟩ | ⟨-, rest, -, rfl⟩ | ⟨-, cw, rest, -, ⟨i, -, hexec⟩ | ⟨-, rfl⟩⟩ := step_next_cases h
  · obtain ⟨hcfg, hready⟩ := sequencerStep_keeps_cfg_ready hseq
    exact ⟨hcfg, .inl hready⟩
  · exact ⟨rfl, .inl rfl⟩
  · exact ⟨rfl, .inl rfl⟩
  · simpa using exec_cfg_ready hexec
  · exact ⟨rfl, .inl rfl⟩

/-- Settles O57: the one step that changes `READY` is an `INIT` with `ALLOC_OK = true`. -/
theorem parametersAndReadyAreStable : Obligations.ParametersAndReadyAreStable := by
  intro s t h
  obtain ⟨hcfg, hready⟩ := step_cfg_ready h
  refine ⟨hcfg, fun hr => ?_, fun hr ha => ?_⟩
  · obtain hsame | ⟨-, hone⟩ := hready
    · exact hsame.trans hr
    · exact hone
  · obtain hsame | ⟨hall, -⟩ := hready
    · exact hsame.trans hr
    · simp [ha] at hall

end Sys2Proof.Machine
end

section
/-! PROOFS. The state family (`10_state.md`): the invariants of R36, what may write `PB`, what the frame depends on, the
memories as data, the state after reset, and the tables. -/

namespace Sys2Proof.Machine

/-! The coordinates of a pixel inside the buffer (R92, R94). -/

/-- An in-range logical coordinate goes to a physical one inside the panel (R92). -/
theorem phys_lt {c : Instance} {r : Rot} {x y : Int} (h : InRange c r x y) :
    (phys c r x y).1 < c.width ∧ (phys c r x y).2 < c.height := by
  cases r <;> simp only [InRange, logicalWidth, logicalHeight] at h <;> simp only [phys] <;> omega

/-- A physical pixel inside the panel has its byte inside the buffer (R41, R47). -/
theorem byteAddr_lt_nbytes {c : Instance} {xp yp : Nat} (hx : xp < c.width) (hy : yp < c.height) :
    byteAddr c xp yp < nbytes c := by
  have hpixel : yp * c.width + xp < nbytes c * 8 := by
    calc yp * c.width + xp < (yp + 1) * c.width := by rw [Nat.succ_mul]; omega
      _ ≤ c.height * c.width := Nat.mul_le_mul_right _ hy
      _ = nbytes c * 8 := by rw [nbytes_mul_eight, Nat.mul_comm]
  exact Nat.div_lt_of_lt_mul (by omega)

/-- The byte of an in-range coordinate exists (R47, R94). -/
theorem pixelByte_lt_nbytes {c : Instance} {r : Rot} {x y : Int} (h : InRange c r x y) : pixelByte c r x y < nbytes c :=
  byteAddr_lt_nbytes (phys_lt h).1 (phys_lt h).2

/-! The invariants, one rule per update of the state (R36). -/

/-- The host's coming acts are in no invariant. -/
theorem State.Inv.setHostIn {s : State} (h : s.Inv) (acts : List HostAct) : (s.setHostIn acts).Inv := h

/-- The moments of offer are in no invariant. -/
theorem State.Inv.passMoment {s : State} (h : s.Inv) : s.passMoment.Inv := h

/-- The responses are in no invariant. -/
theorem State.Inv.respond {s : State} (h : s.Inv) (val : Bool) : (s.respond val).Inv := h

/-- A rejection changes no invariant (R167). -/
theorem State.Inv.reject {s : State} (h : s.Inv) (why : Reject) : (s.reject why).Inv := h

/-- The rotation is in no invariant. -/
theorem State.Inv.setRot {s : State} (h : s.Inv) (r : Rot) : (s.setRot r).Inv := h

/-- A block that has its memories may be put into service (R36 (d), (e)). -/
theorem State.Inv.setReady {s : State} (h : s.Inv) (ha : s.cfg.allocOk = true) : (s.setReady true).Inv := by
  obtain ⟨hpos, hquiet, hselected, hopen, -, -, hmem, hparity, hscratch, hend⟩ := h
  exact ⟨hpos, hquiet, hselected, hopen, fun _ => rfl, fun _ => ha, hmem, hparity, hscratch, hend⟩

/-- Outside a refresh `PB` may become any memory that fits its address space (R36 (f)). -/
theorem State.Inv.setPb {s : State} {m : Memory} (h : s.Inv) (hb : s.busy = false) (hwf : Memory.wf m = true)
    (hin : Memory.within m (nbytes s.cfg) = true) : (s.setPb m).Inv := by
  obtain ⟨hpos, hquiet, hselected, hopen, hready, halloc, ⟨-, hef, hnone⟩, hparity, -, hend⟩ := h
  exact ⟨hpos, hquiet, hselected, hopen, hready, halloc, ⟨⟨hwf, hin⟩, hef, hnone⟩, hparity,
    fun hb' => by simp [hb] at hb', hend⟩

/-- `PB` is in canonical form and inside its address space (R36 (f)). -/
theorem State.Inv.pb_fits {s : State} (h : s.Inv) : Memory.wf s.pb = true ∧ Memory.within s.pb (nbytes s.cfg) = true := by
  obtain ⟨-, -, -, -, -, -, ⟨hpb, -⟩, -⟩ := h
  exact hpb

/-- Outside a refresh a byte of the buffer may be written (R95). -/
theorem State.Inv.writePb {s : State} {a : Nat} (h : s.Inv) (hb : s.busy = false) (ha : a < nbytes s.cfg) (v : Byte) :
    (s.setPb (Memory.write s.pb a v)).Inv :=
  h.setPb hb (Memory.wf_write _ _ _ h.pb_fits.1) (Memory.within_write _ _ _ _ ha h.pb_fits.2)

/-- Outside a refresh the buffer may be cleared (R97). -/
theorem State.Inv.clearPb {s : State} (h : s.Inv) (hb : s.busy = false) : s.clearPb.Inv :=
  h.setPb hb (Memory.wf_writeAll _ _ _ h.pb_fits.1) (Memory.within_writeAll _ _ _ _ (Nat.le_refl _) h.pb_fits.2)

/-- A written position of `EF` reads as the byte written last (R29). -/
theorem State.efByte_of_get? {s : State} {p : Nat} {v : Byte} (h : Memory.get? s.ef p = some v) : s.efByte p = v := by
  rw [State.efByte, h, Option.getD_some]

/-- With `STAGED` the staging pass writes the whole frame over `EF` (R118). -/
theorem stageFrame_ef_staged {s : State} (hst : s.cfg.strategy = .staged) :
    s.stageFrame.ef = Memory.writeAll s.ef s.frameByte (frameLen s.cfg) := by
  simp [State.stageFrame, hst]

/-- With `STREAMING` there is no staging pass (R29). -/
theorem stageFrame_ef_streaming {s : State} (hst : s.cfg.strategy = .streaming) : s.stageFrame.ef = s.ef := by
  simp [State.stageFrame, hst]

/-- After the staging pass `EF` fits its address space, and is still empty with `STREAMING` (R29, R36 (f)). -/
theorem stageFrame_ef_fits {s : State} (h : s.MemoriesFit) :
    (Memory.wf s.stageFrame.ef = true ∧ Memory.within s.stageFrame.ef (frameLen s.cfg) = true) ∧
      (s.cfg.strategy = .streaming → s.stageFrame.ef = []) := by
  obtain ⟨-, ⟨hwf, hin⟩, hnone⟩ := h
  cases hst : s.cfg.strategy with
  | staged =>
    rw [stageFrame_ef_staged hst]
    exact ⟨⟨Memory.wf_writeAll _ _ _ hwf, Memory.within_writeAll _ _ _ _ (Nat.le_refl _) hin⟩, nofun⟩
  | streaming =>
    rw [stageFrame_ef_streaming hst]
    exact ⟨⟨hwf, hin⟩, fun _ => hnone hst⟩

/-- After the staging pass `EF` holds the frame (R118). -/
theorem stageFrame_ef_get? {s : State} {p : Nat} (hst : s.cfg.strategy = .staged) (hp : p < frameLen s.cfg) :
    Memory.get? s.stageFrame.ef p = some (s.frameByte p) := by
  rw [stageFrame_ef_staged hst, Memory.get?_writeAll, if_pos hp]

@[simp] theorem State.startRefresh_completedRefreshes (s : State) :
    s.startRefresh.completedRefreshes = s.completedRefreshes := by
  simp [startRefresh_eq, State.completedRefreshes]

@[simp] theorem State.takeByte_completedRefreshes (s : State) : s.takeByte.completedRefreshes = s.completedRefreshes := by
  rw [takeByte_eq, State.completedRefreshes, State.completedRefreshes]
  cases isLast s.cfg s.pos <;> simp

/-- The finish step completes one refresh (R120, R125). -/
@[simp] theorem State.finishRefresh_completedRefreshes (s : State) :
    s.finishRefresh.completedRefreshes = s.completedRefreshes + 1 := by
  simp [finishRefresh_eq, State.completedRefreshes]

/-- The start step, once `READY = 1`, keeps the invariants, and makes `EF` the frame (R123). -/
theorem State.Inv.startRefresh {s : State} (h : s.Inv) (hr : s.ready = true) : s.startRefresh.Inv := by
  obtain ⟨-, -, -, -, -, halloc, hmem, hparity, -, -⟩ := h
  have hparity' : s.startRefresh.PolarityIsParity := by
    rw [State.PolarityIsParity, startRefresh_completedRefreshes, startRefresh_eq]
    exact hparity
  rw [startRefresh_eq] at hparity' ⊢
  exact ⟨Nat.zero_le _, nofun, fun _ => ⟨rfl, rfl⟩, fun _ => ⟨rfl, rfl⟩, fun _ => hr, halloc,
    ⟨hmem.1, stageFrame_ef_fits hmem⟩, hparity',
    fun _ hst _ hp => State.efByte_of_get? (stageFrame_ef_get? (s := s) hst hp), fun _ _ => rfl⟩

/-- The last byte of a frame ends a send in both strategies (R124). -/
theorem isLast_last (c : Instance) : isLast c (frameLen c - 1) = true := by
  cases hst : c.strategy <;> simp [isLast, hst, phaseOf_last]

/-- A byte taken inside a refresh keeps the invariants; when it is the last one it closes its send (R124). -/
theorem State.Inv.takeByte {s : State} (h : s.Inv) (hb : s.busy = true) (hp : s.pos < frameLen s.cfg) : s.takeByte.Inv := by
  obtain ⟨-, -, hselected, hopen, hready, halloc, hmem, hparity, hscratch, -⟩ := h
  have hparity' : s.takeByte.PolarityIsParity := by
    rw [State.PolarityIsParity, takeByte_completedRefreshes, takeByte_eq]
    exact hparity
  rw [takeByte_eq] at hparity' ⊢
  refine ⟨hp, fun hidle => ?_, hselected, hopen, hready, halloc, hmem, hparity', hscratch, fun _ hend => ?_⟩
  · simp [hb] at hidle
  · have hpos : s.pos = frameLen s.cfg - 1 := Nat.eq_sub_of_add_eq hend
    simp [hpos, isLast_last]

/-- The finish step keeps the invariants: the polarity flips with the number of refreshes completed (R125, R142). -/
theorem State.Inv.finishRefresh {s : State} (h : s.Inv) (hb : s.busy = true) (hp : s.pos = frameLen s.cfg) :
    s.finishRefresh.Inv := by
  obtain ⟨-, -, -, -, -, halloc, hmem, hparity, -, hend⟩ := h
  have hparity' : s.finishRefresh.PolarityIsParity := by
    have hpol : s.finishRefresh.pol = !s.pol := by rw [finishRefresh_eq]
    rw [State.PolarityIsParity, hpol, finishRefresh_completedRefreshes, hparity, ← decide_not]
    exact decide_eq_decide.mpr (by omega)
  rw [finishRefresh_eq] at hparity' ⊢
  exact ⟨Nat.zero_le _, fun _ => ⟨rfl, rfl, rfl, hend hb hp⟩, nofun, nofun, nofun, halloc, hmem, hparity', nofun, nofun⟩

/-! Every step keeps the invariants (R36). -/

/-- Every command keeps the invariants. -/
theorem exec_keeps_inv {i : Instr} {s t : State} (hs : s.Inv) (h : exec i s = .next t) : t.Inv := by
  cases i with
  | init =>
    obtain ⟨-, ⟨-, rfl⟩ | ⟨-, ha, rfl⟩ | ⟨-, -, rfl⟩⟩ := execInit_next_cases h
    · exact hs.reject _
    · exact ((hs.setReady ha).setRot _).respond _
    · exact hs.reject _
  | setrot r =>
    obtain ⟨-, ⟨-, rfl⟩ | ⟨-, rfl⟩⟩ := admitCommand_next_next_cases h
    · exact (hs.setRot r).respond _
    · exact hs.reject _
  | setpix x y colour =>
    obtain ⟨hb, ⟨-, hin, rfl⟩ | ⟨-, -, rfl⟩ | ⟨-, rfl⟩⟩ := execSetpix_next_cases h
    · exact (hs.writePb hb (pixelByte_lt_nbytes hin) _).respond _
    · exact hs.respond _
    · exact hs.reject _
  | getpix x y =>
    obtain ⟨-, ⟨-, val, rfl⟩ | ⟨-, rfl⟩⟩ := execGetpix_next_cases h
    · exact hs.respond val
    · exact hs.reject _
  | clrbuf =>
    obtain ⟨hb, ⟨-, rfl⟩ | ⟨-, rfl⟩⟩ := admitCommand_next_next_cases h
    · exact (hs.clearPb hb).respond _
    · exact hs.reject _
  | clrref =>
    obtain ⟨hb, ⟨hr, rfl⟩ | ⟨-, rfl⟩⟩ := admitCommand_next_next_cases h
    · exact (hs.clearPb hb).startRefresh hr
    · exact hs.reject _
  | refresh =>
    obtain ⟨-, ⟨hr, rfl⟩ | ⟨-, rfl⟩⟩ := admitCommand_next_next_cases h
    · exact hs.startRefresh hr
    · exact hs.reject _

/-- Every step of the sequencer keeps the invariants (R123 to R125). -/
theorem sequencerStep_keeps_inv {s t : State} (hs : s.Inv) (hb : s.busy = true) (h : sequencerStep s = .next t) : t.Inv := by
  obtain ⟨hp, -, rfl⟩ | ⟨-, -, rfl⟩ | ⟨hp, rfl⟩ := sequencerStep_next_cases h
  · exact hs.passMoment.takeByte hb hp
  · exact hs.passMoment
  · exact hs.finishRefresh hb hp

/-- Settles O54: each update of the state has its rule, and a step is one command or one step of the sequencer. -/
theorem stepKeepsInvariants : Obligations.StepKeepsInvariants := by
  intro s t hs h
  obtain ⟨hb, -, hseq⟩ | ⟨-, -, rfl⟩ | ⟨-, rest, -, rfl⟩ | ⟨-, cw, rest, -, ⟨i, -, hexec⟩ | ⟨-, rfl⟩⟩ := step_next_cases h
  · exact sequencerStep_keeps_inv hs hb hseq
  · exact hs
  · exact hs.setHostIn rest
  · exact exec_keeps_inv (hs.setHostIn rest) hexec
  · exact (hs.setHostIn rest).reject _

/-! No step faults (R47, R160). -/

/-- The admission checks of R166 (3) add no fault. -/
theorem admitCommand_ne_fault {s : State} {o : Host.Outcome State Fault Refusal} {f : Fault} (h : o ≠ .fault f) :
    admitCommand s o ≠ .fault f := by
  unfold admitCommand
  cases s.busy with
  | true => exact nofun
  | false =>
    cases s.ready with
    | true => exact h
    | false => exact nofun

/-- The admission checks of `INIT` add no fault. -/
theorem admitInit_ne_fault {s : State} {o : Host.Outcome State Fault Refusal} {f : Fault} (h : o ≠ .fault f) :
    admitInit s o ≠ .fault f := by
  unfold admitInit
  cases s.busy with
  | true => exact nofun
  | false =>
    cases s.ready with
    | true => exact nofun
    | false =>
      cases s.cfg.allocOk with
      | true => exact h
      | false => exact nofun

/-- No command faults: the byte of an in-range coordinate exists (R47). -/
theorem exec_ne_fault (i : Instr) (s : State) (f : Fault) : exec i s ≠ .fault f := by
  cases i with
  | init => exact admitInit_ne_fault nofun
  | setpix x y colour =>
    refine admitCommand_ne_fault ?_
    by_cases hin : InRange s.cfg s.rot x y
    · rw [if_pos hin, writePixel_inside s _ _ _ (pixelByte_lt_nbytes hin)]
      exact nofun
    · rw [if_neg hin]
      exact nofun
  | getpix x y =>
    refine admitCommand_ne_fault ?_
    by_cases hin : InRange s.cfg s.rot x y
    · rw [if_pos hin, memRead_inside s _ (pixelByte_lt_nbytes hin)]
      exact nofun
    · rw [if_neg hin]
      exact nofun
  | setrot r => exact admitCommand_ne_fault nofun
  | clrbuf => exact admitCommand_ne_fault nofun
  | clrref => exact admitCommand_ne_fault nofun
  | refresh => exact admitCommand_ne_fault nofun

/-- The sequencer faults only beyond the frame (R124, R125). -/
theorem sequencerStep_ne_fault {s : State} (hp : s.pos ≤ frameLen s.cfg) (f : Fault) : sequencerStep s ≠ .fault f := by
  unfold sequencerStep
  by_cases hlt : s.pos < frameLen s.cfg
  · rw [if_pos hlt]
    cases s.txReady with
    | true => exact nofun
    | false => exact nofun
  · rw [if_neg hlt, if_pos (Nat.le_antisymm hp (Nat.le_of_not_lt hlt))]
    exact nofun

/-- Settles O55: no command faults in any state, and `POS` stays inside the frame. -/
theorem noFaultFromInvariants : Obligations.NoFaultFromInvariants := by
  intro s f hs
  obtain ⟨hpos, -⟩ := hs
  unfold step
  cases s.nextAct with
  | rstApplied => exact nofun
  | sequencer => exact sequencerStep_ne_fault hpos f
  | idle u => exact nofun
  | accept cw u =>
    dsimp only
    cases decode cw with
    | ok i => exact exec_ne_fault i u f
    | error why => exact nofun

/-! What may write `PB` (R28, R35). -/

@[simp] theorem State.startRefresh_pb (s : State) : s.startRefresh.pb = s.pb := by rw [startRefresh_eq]

@[simp] theorem State.passMoment_pb (s : State) : s.passMoment.pb = s.pb := rfl

@[simp] theorem State.takeByte_pb (s : State) : s.takeByte.pb = s.pb := by rw [takeByte_eq]

@[simp] theorem State.finishRefresh_pb (s : State) : s.finishRefresh.pb = s.pb := by rw [finishRefresh_eq]

/-- The sequencer only reads `PB` (R49). -/
theorem sequencerStep_keeps_pb {s t : State} (h : sequencerStep s = .next t) : t.pb = s.pb := by
  obtain ⟨-, -, rfl⟩ | ⟨-, -, rfl⟩ | ⟨-, rfl⟩ := sequencerStep_next_cases h <;> simp

/-- A command that changes `PB` is carried out with `READY = 1`, and is one of the three that write it (R35). -/
theorem exec_changes_pb {i : Instr} {s t : State} (h : exec i s = .next t) (hpb : t.pb ≠ s.pb) :
    s.ready = true ∧
      ((∃ x y colour, i = .setpix x y colour ∧ InRange s.cfg s.rot x y) ∨ i = .clrbuf ∨ i = .clrref) := by
  cases i with
  | init => obtain ⟨-, ⟨-, rfl⟩ | ⟨-, -, rfl⟩ | ⟨-, -, rfl⟩⟩ := execInit_next_cases h <;> simp at hpb
  | setrot r => obtain ⟨-, ⟨-, rfl⟩ | ⟨-, rfl⟩⟩ := admitCommand_next_next_cases h <;> simp at hpb
  | setpix x y colour =>
    obtain ⟨-, ⟨hr, hin, -⟩ | ⟨-, -, rfl⟩ | ⟨-, rfl⟩⟩ := execSetpix_next_cases h
    · exact ⟨hr, .inl ⟨x, y, colour, rfl, hin⟩⟩
    · simp at hpb
    · simp at hpb
  | getpix x y => obtain ⟨-, ⟨-, val, rfl⟩ | ⟨-, rfl⟩⟩ := execGetpix_next_cases h <;> simp at hpb
  | clrbuf =>
    obtain ⟨-, ⟨hr, -⟩ | ⟨-, rfl⟩⟩ := admitCommand_next_next_cases h
    · exact ⟨hr, .inr (.inl rfl)⟩
    · simp at hpb
  | clrref =>
    obtain ⟨-, ⟨hr, -⟩ | ⟨-, rfl⟩⟩ := admitCommand_next_next_cases h
    · exact ⟨hr, .inr (.inr rfl)⟩
    · simp at hpb
  | refresh => obtain ⟨-, ⟨-, rfl⟩ | ⟨-, rfl⟩⟩ := admitCommand_next_next_cases h <;> simp at hpb

/-- Settles O58: of the five things a step can be, only a command carried out changes `PB`. -/
theorem bufferChangesOnlyByWritingCommands : Obligations.BufferChangesOnlyByWritingCommands := by
  intro s t h hpb
  obtain ⟨-, -, hseq⟩ | ⟨-, -, rfl⟩ | ⟨-, rest, -, rfl⟩ | ⟨hb, cw, rest, hin, ⟨i, hdec, hexec⟩ | ⟨-, rfl⟩⟩ := step_next_cases h
  · exact absurd (sequencerStep_keeps_pb hseq) hpb
  · exact absurd rfl hpb
  · exact absurd rfl hpb
  · obtain ⟨hr, hwrites⟩ := exec_changes_pb hexec hpb
    exact ⟨hb, hr, cw, rest, i, hin, hdec, hwrites⟩
  · exact absurd rfl hpb

/-! The frame depends on `PB`, `POL` and the parameters only (R113, R100). -/

/-- The data bytes of a line lie inside the buffer (R113). -/
theorem lineByte_lt_nbytes {c : Instance} {i j : Nat} (hi : i < c.height) (hj : j < bpl c) : i * bpl c + j < nbytes c := by
  calc i * bpl c + j < (i + 1) * bpl c := by rw [Nat.succ_mul]; omega
    _ ≤ c.height * bpl c := Nat.mul_le_mul_right _ hi

section
variable {s t : State} (hcfg : s.cfg = t.cfg) (hpol : s.pol = t.pol) (hpb : ∀ a, a < nbytes s.cfg → s.pbByte a = t.pbByte a)
include hcfg hpb

/-- Two equal buffers have the same line records (R115). -/
theorem State.lineRecord_congr {i : Nat} (hi : i < s.cfg.height) : s.lineRecord i = t.lineRecord i := by
  rw [State.lineRecord, State.lineRecord, ← hcfg]
  congr 1
  exact List.map_congr_left fun j hj => hpb _ (lineByte_lt_nbytes hi (List.mem_range.mp hj))

/-- Two equal buffers have the same line records in the same order (R113). -/
theorem State.lineRecords_congr :
    (List.range s.cfg.height).map s.lineRecord = (List.range t.cfg.height).map t.lineRecord := by
  rw [← hcfg]
  exact List.map_congr_left fun i hi => State.lineRecord_congr hcfg hpb (List.mem_range.mp hi)

include hpol

theorem State.frame_congr : s.frame = t.frame := by
  rw [s.frame_eq_lineRecords, t.frame_eq_lineRecords, List.flatMap_def, List.flatMap_def,
    State.lineRecords_congr hcfg hpb, hcfg, hpol]

theorem State.chunks_congr : s.chunks = t.chunks := by
  cases hst : s.cfg.strategy with
  | staged => rw [s.chunks_staged hst, t.chunks_staged (hcfg ▸ hst), State.frame_congr hcfg hpol hpb]
  | streaming =>
    rw [s.chunks_streaming hst, t.chunks_streaming (hcfg ▸ hst), State.lineRecords_congr hcfg hpb, hcfg, hpol]

theorem State.refreshEvents_congr : s.refreshEvents = t.refreshEvents := by
  rw [State.refreshEvents, State.refreshEvents, State.chunks_congr hcfg hpol hpb, hcfg]

end

/-- Settles O42: header, line records and terminator read the parameters, `POL` and the bytes of `PB`. -/
theorem frameDependsOnBufferAndPolarityOnly : Obligations.FrameDependsOnBufferAndPolarityOnly := fun _ _ hcfg hpol hpb =>
  ⟨State.frame_congr hcfg hpol hpb, State.refreshEvents_congr hcfg hpol hpb⟩

/-! Memories as data (log 3). -/

theorem Memory.get?_cons (b : Nat) (w : Byte) (m : Memory) (a : Nat) :
    Memory.get? ((b, w) :: m) a = if a = b then some w else Memory.get? m a := rfl

/-- The canonical form of a nonempty memory: its first address is below all others. -/
theorem Memory.wf_cons {a : Nat} {v : Byte} {m : Memory} :
    Memory.wf ((a, v) :: m) = true ↔ (∀ cell ∈ m, a < cell.1) ∧ Memory.wf m = true := by
  simp [Memory.wf]

/-- No byte is written below the first address. -/
theorem Memory.get?_eq_none {m : Memory} {a : Nat} (h : ∀ cell ∈ m, a < cell.1) : Memory.get? m a = none := by
  induction m with
  | nil => rfl
  | cons cell m ih =>
    obtain ⟨b, w⟩ := cell
    obtain ⟨hab, hm⟩ := List.forall_mem_cons.mp h
    rw [Memory.get?_cons, if_neg (Nat.ne_of_lt hab)]
    exact ih hm

/-- The first address of a memory in canonical form is the lowest written one. -/
theorem Memory.head_le_of_get? {a x : Nat} {v w : Byte} {m : Memory} (hm : Memory.wf ((a, v) :: m) = true)
    (hx : Memory.get? ((a, v) :: m) x = some w) : a ≤ x := by
  refine Nat.le_of_not_lt fun hlt => ?_
  have hbelow : ∀ cell ∈ (a, v) :: m, x < cell.1 :=
    List.forall_mem_cons.mpr ⟨hlt, fun cell hc => Nat.lt_trans hlt ((Memory.wf_cons.mp hm).1 cell hc)⟩
  rw [Memory.get?_eq_none hbelow] at hx
  exact nomatch hx

/-- Settles O60, by induction on the lists: equal memories have the same lowest written address, so they begin alike. -/
theorem equalMemoriesAreEqualData : Obligations.EqualMemoriesAreEqualData := by
  intro m₁
  induction m₁ with
  | nil =>
    rintro (_ | ⟨⟨b, w⟩, m₂⟩) - - heq
    · rfl
    · simpa [Memory.get?] using heq b
  | cons cell m₁ ih =>
    obtain ⟨a, v⟩ := cell
    rintro (_ | ⟨⟨b, w⟩, m₂⟩) hwf₁ hwf₂ heq
    · simpa [Memory.get?] using heq a
    · have ha : Memory.get? ((b, w) :: m₂) a = some v := by simp [← heq, Memory.get?_cons]
      have hb : Memory.get? ((a, v) :: m₁) b = some w := by simp [heq, Memory.get?_cons]
      obtain rfl : a = b := Nat.le_antisymm (Memory.head_le_of_get? hwf₁ hb) (Memory.head_le_of_get? hwf₂ ha)
      obtain rfl : w = v := by simpa [Memory.get?_cons] using ha
      obtain ⟨hlow₁, hm₁⟩ := Memory.wf_cons.mp hwf₁
      obtain ⟨hlow₂, hm₂⟩ := Memory.wf_cons.mp hwf₂
      have htail : ∀ x, Memory.get? m₁ x = Memory.get? m₂ x := by
        intro x
        by_cases hx : x = a
        · rw [hx, Memory.get?_eq_none hlow₁, Memory.get?_eq_none hlow₂]
        · simpa [Memory.get?_cons, hx] using heq x
      rw [ih m₂ hm₁ hm₂ htail]

/-! The state after reset (R34). -/

/-- Settles O13: each field is the one R34 gives, and no byte of `PB` is written. -/
theorem resetLeaves : Obligations.ResetLeaves := fun _ _ =>
  ⟨rfl, rfl, rfl, rfl, rfl, rfl, rfl, fun _ => rfl, rfl⟩

/-- After reset nothing is in progress, nothing is written, and no refresh has been completed. -/
theorem start_inv (c : Instance) (draw : Nat) : (State.start c draw).Inv :=
  ⟨Nat.zero_le _, fun _ => ⟨rfl, rfl, rfl, rfl⟩, nofun, nofun, nofun, nofun, ⟨⟨rfl, rfl⟩, ⟨rfl, rfl⟩, fun _ => rfl⟩, rfl,
    nofun, nofun⟩

/-- Settles O15: `State.reset` is one of the reset states. -/
theorem resetMeetsInvariants : Obligations.ResetMeetsInvariants := ⟨start_inv, start_inv _ _⟩

/-! The tables (R30, R31). -/

/-- Settles O26: the eight entries of each table. -/
theorem masksArePowersOfTwo : Obligations.MasksArePowersOfTwo := by
  unfold Obligations.MasksArePowersOfTwo
  decide

/-- The lowest `m` binary digits of `n` in reverse: the sum of R73 by Horner's rule. -/
def reversedDigits : Nat → Nat → Nat
  | 0, _ => 0
  | m + 1, n => 2 * reversedDigits m n + n / 2 ^ m % 2

/-- The sum of R73 up to its digit `m`, with the weights still to come taken out. -/
theorem foldl_digits_eq (n : Nat) {m : Nat} (hm : m ≤ 8) :
    (List.range m).foldl (fun acc k => acc + n / 2 ^ k % 2 * 2 ^ (7 - k)) 0 = 2 ^ (8 - m) * reversedDigits m n := by
  induction m with
  | zero => rfl
  | succ m ih =>
    have hweight : 2 ^ (8 - m) = 2 ^ (7 - m) * 2 := by rw [← Nat.pow_succ, Nat.succ_eq_add_one]; congr 1; omega
    rw [List.range_succ, List.foldl_append, ih (Nat.le_of_succ_le hm), hweight, reversedDigits, Nat.mul_add, Nat.mul_assoc,
      show 8 - (m + 1) = 7 - m by omega, Nat.mul_comm (2 ^ (7 - m)) (n / 2 ^ m % 2)]
    rfl

/-- The table entry is the reversal of the eight digits of its index (R73). -/
theorem rev_eq_reversedDigits (n : Nat) : rev n = BitVec.ofNat 8 (reversedDigits 8 n) := by
  rw [rev, foldl_digits_eq n (Nat.le_refl 8), Nat.sub_self, Nat.pow_zero, Nat.one_mul]

/-- Digit `k` of the reversal of `m` digits is digit `m - 1 - k` of the number reversed. -/
theorem testBit_reversedDigits (n : Nat) {m k : Nat} (hk : k < m) :
    (reversedDigits m n).testBit k = n.testBit (m - 1 - k) := by
  induction m generalizing k with
  | zero => exact absurd hk (Nat.not_lt_zero k)
  | succ m ih =>
    cases k with
    | zero => simp [reversedDigits, Nat.testBit_eq_decide_div_mod_eq]
    | succ k =>
      have hhalf : reversedDigits (m + 1) n / 2 = reversedDigits m n := by rw [reversedDigits]; omega
      rw [Nat.testBit_succ, hhalf, ih (Nat.lt_of_succ_lt_succ hk)]
      congr 1; omega

/-- Bit `k` of a table entry is bit `7 - k` of its index (R30). -/
theorem getLsbD_rev (n : Nat) {k : Nat} (hk : k < 8) : (rev n).getLsbD k = (BitVec.ofNat 8 n).getLsbD (7 - k) := by
  rw [rev_eq_reversedDigits, BitVec.getLsbD_ofNat, BitVec.getLsbD_ofNat, testBit_reversedDigits n hk]
  simp [hk, show 7 - k < 8 by omega]

/-- Reversing the bits of a byte twice gives the byte (R30). -/
theorem rev_rev (b : Byte) : rev (rev b.toNat).toNat = b := by
  apply BitVec.eq_of_getLsbD_eq
  intro k hk
  rw [getLsbD_rev _ hk, BitVec.ofNat_toNat, BitVec.setWidth_eq, getLsbD_rev _ (by omega), BitVec.ofNat_toNat,
    BitVec.setWidth_eq, Nat.sub_sub_self (by omega)]

/-- Settles O38: reversing moves bit `k` to bit `7 - k`, and twice back. -/
theorem reversalTableIsInvolution : Obligations.ReversalTableIsInvolution := by
  intro n hn
  refine ⟨fun k hk => getLsbD_rev n hk, ?_⟩
  have hbyte : (BitVec.ofNat 8 n).toNat = n := by rw [BitVec.toNat_ofNat, Nat.mod_eq_of_lt hn]
  simpa only [hbyte] using congrArg BitVec.toNat (rev_rev (BitVec.ofNat 8 n))

end Sys2Proof.Machine
end

section
/-! PROOFS. The memory family (`20_memory.md`): what stands still while a refresh is in progress. -/

namespace Sys2Proof.Machine

/-! The host's words and `ROT` during a refresh (R49, R182). -/

@[simp] theorem State.passMoment_hostIn (s : State) : s.passMoment.hostIn = s.hostIn := rfl

@[simp] theorem State.passMoment_rot (s : State) : s.passMoment.rot = s.rot := rfl

@[simp] theorem State.takeByte_hostIn (s : State) : s.takeByte.hostIn = s.hostIn := by rw [takeByte_eq]

@[simp] theorem State.takeByte_rot (s : State) : s.takeByte.rot = s.rot := by rw [takeByte_eq]

@[simp] theorem State.finishRefresh_hostIn (s : State) : s.finishRefresh.hostIn = s.hostIn := by rw [finishRefresh_eq]

@[simp] theorem State.finishRefresh_rot (s : State) : s.finishRefresh.rot = s.rot := by rw [finishRefresh_eq]

/-- The sequencer neither takes a word of the host nor writes `ROT` (R123 to R125). -/
theorem sequencerStep_keeps_hostIn_rot {s t : State} (h : sequencerStep s = .next t) :
    t.hostIn = s.hostIn ∧ t.rot = s.rot := by
  obtain ⟨-, -, rfl⟩ | ⟨-, -, rfl⟩ | ⟨-, rfl⟩ := sequencerStep_next_cases h <;> simp

/-- While `BUSY = 1` a step that has a next state is the sequencer's (R182). -/
theorem sequencerStep_of_step_of_busy {s t : State} (hb : s.busy = true) (h : step s = .next t) :
    sequencerStep s = .next t := by
  obtain ⟨-, -, hseq⟩ | ⟨hidle, -⟩ | ⟨hidle, -⟩ | ⟨hidle, -⟩ := step_next_cases h
  · exact hseq
  all_goals simp [hb] at hidle

/-- Settles O10: a step while `BUSY = 1` is the sequencer's, which writes none of these. -/
theorem refreshAcceptsNoWord : Obligations.RefreshAcceptsNoWord := by
  intro s t hb h
  have hseq := sequencerStep_of_step_of_busy hb h
  obtain ⟨hhost, hrot⟩ := sequencerStep_keeps_hostIn_rot hseq
  obtain ⟨-, hready⟩ := sequencerStep_keeps_cfg_ready hseq
  exact ⟨by simp [State.cmdReady, hb], hhost, sequencerStep_keeps_pb hseq, hrot, hready⟩

end Sys2Proof.Machine
end

section
/-! PROOFS. The encoding family (`30_encoding.md`): the opcode map by formats, the decoder, the two round trips, the two
readings of a coordinate field, what an accepted word does to the block, and the one bit a `SETPIX` writes. -/

namespace Sys2Proof

/-! A word and its four fields (R61). -/

@[simp] theorem packWord_fields (w : CmdWord) : packWord (opField w) (aField w) (bField w) (cField w) = w :=
  cmdWord_ext (opField_packWord ..) (aField_packWord ..) (bField_packWord ..) (cField_packWord ..)

/-- Settles O2: the four fields cover the word, each bit once. -/
theorem wordIsItsFourFields : Obligations.WordIsItsFourFields :=
  ⟨fun _ _ _ _ => ⟨opField_packWord .., aField_packWord .., bField_packWord .., cField_packWord ..⟩, packWord_fields⟩

/-- Words are equal exactly when their fields are (R61). -/
theorem packWord_eq_iff {op op' : Byte} {a a' b b' c c' : Field} :
    packWord op a b c = packWord op' a' b' c' ↔ op = op' ∧ a = a' ∧ b = b' ∧ c = c' := by
  refine ⟨fun h => ?_, fun ⟨ho, ha, hb, hc⟩ => ho ▸ ha ▸ hb ▸ hc ▸ rfl⟩
  have ho := congrArg opField h
  have ha := congrArg aField h
  have hb := congrArg bField h
  have hc := congrArg cField h
  simp only [opField_packWord, aField_packWord, bField_packWord, cField_packWord] at ho ha hb hc
  exact ⟨ho, ha, hb, hc⟩

/-! The rows of the opcode map by their formats (R62, R63). -/

/-- The value of `op` that R63 assigns to a row. -/
def Opcode.code : Opcode → Byte
  | .init => 0x01#8
  | .setrot => 0x02#8
  | .setpix => 0x10#8
  | .getpix => 0x11#8
  | .clrbuf => 0x20#8
  | .clrref => 0x21#8
  | .refresh => 0x30#8

/-- The reserved bits of `a`, `b` and `c` in the format of a row: all in format N, all but `r` in format R, none in format P, the
field `c` in format Q (R62). -/
def Opcode.reserved : Opcode → Field × Field × Field
  | .init | .clrbuf | .clrref | .refresh => (0xFFFF#16, 0xFFFF#16, 0xFFFF#16)
  | .setrot => (0xFFFF#16, 0xFFFF#16, 0xFFFC#16)
  | .setpix => (0#16, 0#16, 0#16)
  | .getpix => (0#16, 0#16, 0xFFFF#16)

/-- The row of an opcode, by its format: the pattern is the opcode alone, the mask the opcode and the reserved bits (R63). -/
def Opcode.row (o : Opcode) : OpcodeRow where
  opcode := o
  pattern := packWord o.code 0#16 0#16 0#16
  mask := packWord 0xFF#8 o.reserved.1 o.reserved.2.1 o.reserved.2.2

/-- No reserved bit of the row's format is 1 in the word (R62). -/
def Opcode.ReservedClear (o : Opcode) (w : CmdWord) : Prop :=
  aField w &&& o.reserved.1 = 0#16 ∧ bField w &&& o.reserved.2.1 = 0#16 ∧ cField w &&& o.reserved.2.2 = 0#16

/-- The opcode map has the row of each opcode, as its format gives it (R62, R63). -/
theorem mem_opcodeTable_iff {row : OpcodeRow} : row ∈ opcodeTable ↔ ∃ o : Opcode, row = o.row := by
  have htable : opcodeTable = [Opcode.init.row, Opcode.setrot.row, Opcode.setpix.row, Opcode.getpix.row,
    Opcode.clrbuf.row, Opcode.clrref.row, Opcode.refresh.row] := by decide
  constructor
  · intro h
    simp only [htable, List.mem_cons, List.not_mem_nil, or_false] at h
    obtain h | h | h | h | h | h | h := h <;> exact ⟨_, h⟩
  · rintro ⟨o, rfl⟩
    cases o <;> simp [htable]

/-- A word matches a row exactly when it has the row's opcode and no reserved bit of the row's format is 1 (R62, R63). -/
theorem and_mask_eq_pattern_iff {o : Opcode} {w : CmdWord} :
    w &&& o.row.mask = o.row.pattern ↔ opField w = o.code ∧ o.ReservedClear w := by
  have hop : opField w &&& 0xFF#8 = opField w := BitVec.and_allOnes
  conv => lhs; lhs; rw [← packWord_fields w]
  rw [Opcode.row, packWord_and, packWord_eq_iff, hop, Opcode.ReservedClear]

/-- The seven values of `op` are distinct (R63). -/
theorem Opcode.code_injective {o₁ o₂ : Opcode} (h : o₁.code = o₂.code) : o₁ = o₂ := by
  revert h
  cases o₁ <;> cases o₂ <;> decide

theorem mem_assignedOpcodes_iff {op : Byte} : op ∈ assignedOpcodes ↔ ∃ o : Opcode, op = o.code := by
  constructor
  · intro h
    simp only [assignedOpcodes, List.mem_cons, List.not_mem_nil, or_false] at h
    obtain h | h | h | h | h | h | h := h
    · exact ⟨.init, h⟩
    · exact ⟨.setrot, h⟩
    · exact ⟨.setpix, h⟩
    · exact ⟨.getpix, h⟩
    · exact ⟨.clrbuf, h⟩
    · exact ⟨.clrref, h⟩
    · exact ⟨.refresh, h⟩
  · rintro ⟨o, rfl⟩
    cases o <;> decide

/-! What the decoder answers (R82). -/

/-- The row the decoder finds matches the word (R63). -/
theorem opField_of_rowOfWord {w : CmdWord} {row : OpcodeRow} (h : rowOfWord w = some row) :
    ∃ o : Opcode, row = o.row ∧ opField w = o.code ∧ o.ReservedClear w := by
  obtain ⟨o, rfl⟩ := mem_opcodeTable_iff.mp (List.mem_of_find?_eq_some h)
  have hmatch : o.row.matchesWord w = true := List.find?_some (p := fun row : OpcodeRow => row.matchesWord w) h
  exact ⟨o, rfl, and_mask_eq_pattern_iff.mp (beq_iff_eq.mp hmatch)⟩

/-- The rows are disjoint, so the row the decoder finds is the one that matches (R63). -/
theorem rowOfWord_eq_some_iff {w : CmdWord} {row : OpcodeRow} :
    rowOfWord w = some row ↔ ∃ o : Opcode, row = o.row ∧ opField w = o.code ∧ o.ReservedClear w := by
  refine ⟨opField_of_rowOfWord, ?_⟩
  rintro ⟨o, rfl, hop, hres⟩
  have hmatch : o.row.matchesWord w = true := beq_iff_eq.mpr (and_mask_eq_pattern_iff.mpr ⟨hop, hres⟩)
  cases hrow : rowOfWord w with
  | none => exact absurd hmatch (List.find?_eq_none.mp hrow _ (mem_opcodeTable_iff.mpr ⟨o, rfl⟩))
  | some row =>
    obtain ⟨o', rfl, hop', -⟩ := opField_of_rowOfWord hrow
    rw [Opcode.code_injective (hop'.symm.trans hop)]

theorem decode_eq_ok_iff {w : CmdWord} {i : Instr} :
    decode w = .ok i ↔ ∃ o : Opcode, opField w = o.code ∧ o.ReservedClear w ∧ i = operandsOf o w := by
  unfold decode
  constructor
  · cases hrow : rowOfWord w with
    | none => exact nofun
    | some row =>
      intro h
      obtain ⟨o, rfl, hop, hres⟩ := rowOfWord_eq_some_iff.mp hrow
      exact ⟨o, hop, hres, (Except.ok.inj h).symm⟩
  · rintro ⟨o, hop, hres, rfl⟩
    rw [rowOfWord_eq_some_iff.mpr ⟨o, rfl, hop, hres⟩]
    rfl

theorem decode_eq_error_iff {w : CmdWord} {why : Illegal} :
    decode w = .error why ↔ (∀ o : Opcode, opField w = o.code → ¬ o.ReservedClear w) ∧ why = illegalReason w := by
  unfold decode
  cases hrow : rowOfWord w with
  | none =>
    have hnone : ∀ o : Opcode, opField w = o.code → ¬ o.ReservedClear w := fun o hop hres => by
      simp [rowOfWord_eq_some_iff.mpr ⟨o, rfl, hop, hres⟩] at hrow
    exact ⟨fun h => ⟨hnone, (Except.error.inj h).symm⟩, fun ⟨_, h⟩ => h ▸ rfl⟩
  | some row =>
    obtain ⟨o, -, hop, hres⟩ := rowOfWord_eq_some_iff.mp hrow
    exact ⟨nofun, fun ⟨hnone, _⟩ => absurd hres (hnone o hop)⟩

/-- A word that matches a row is that row's command (R63). -/
theorem decode_of_and_mask_eq {w : CmdWord} {row : OpcodeRow} (hrow : row ∈ opcodeTable)
    (hmatch : w &&& row.mask = row.pattern) : decode w = .ok (operandsOf row.opcode w) := by
  obtain ⟨o, rfl⟩ := mem_opcodeTable_iff.mp hrow
  obtain ⟨hop, hres⟩ := and_mask_eq_pattern_iff.mp hmatch
  exact decode_eq_ok_iff.mpr ⟨o, hop, hres, rfl⟩

/-- No word matches two rows (R63). -/
theorem row_eq_of_and_mask_eq {w : CmdWord} {row₁ row₂ : OpcodeRow} (hrow₁ : row₁ ∈ opcodeTable)
    (hrow₂ : row₂ ∈ opcodeTable) (hmatch₁ : w &&& row₁.mask = row₁.pattern) (hmatch₂ : w &&& row₂.mask = row₂.pattern) :
    row₁ = row₂ := by
  obtain ⟨o₁, rfl⟩ := mem_opcodeTable_iff.mp hrow₁
  obtain ⟨o₂, rfl⟩ := mem_opcodeTable_iff.mp hrow₂
  obtain ⟨hop₁, -⟩ := and_mask_eq_pattern_iff.mp hmatch₁
  obtain ⟨hop₂, -⟩ := and_mask_eq_pattern_iff.mp hmatch₂
  rw [Opcode.code_injective (hop₁.symm.trans hop₂)]

/-- Settles O3: a row matches by its opcode and its reserved bits, and no two rows have the same opcode. -/
theorem opcodeMapIsUnambiguous : Obligations.OpcodeMapIsUnambiguous := by
  refine ⟨rfl, fun _ _ => decode_of_and_mask_eq, fun w i h => ?_, fun _ _ hrow₁ _ hrow₂ => row_eq_of_and_mask_eq hrow₁ hrow₂⟩
  obtain ⟨o, hop, hres, rfl⟩ := decode_eq_ok_iff.mp h
  exact ⟨o.row, mem_opcodeTable_iff.mpr ⟨o, rfl⟩, and_mask_eq_pattern_iff.mpr ⟨hop, hres⟩, rfl⟩

/-- Settles O1: each word is decoded by computation. -/
theorem sampleWordsDecode : Obligations.SampleWordsDecode :=
  ⟨rfl, rfl, rfl, rfl, rfl, rfl, rfl, rfl, rfl, rfl⟩

/-! Illegal words (R68). -/

/-- A field whose bits are all reserved is 0. -/
theorem and_FFFF_eq_zero_iff {f : Field} : f &&& 0xFFFF#16 = 0#16 ↔ f = 0#16 := by
  rw [show f &&& 0xFFFF#16 = f from BitVec.and_allOnes]

/-- In format R the reserved bits of `c` leave `r` only, a number below 4 (R62). -/
theorem and_FFFC_eq_zero_iff {f : Field} : f &&& 0xFFFC#16 = 0#16 ↔ f.toNat < 4 := by
  have hmask : ∀ k < 16, (0xFFFC#16).getLsbD k = decide (2 ≤ k) := by decide
  constructor
  · intro h
    refine Nat.lt_pow_two_of_testBit (n := 2) _ fun k hk => ?_
    by_cases hk16 : k < 16
    · have hbit : (f &&& 0xFFFC#16).getLsbD k = false := by rw [h, BitVec.getLsbD_zero]
      rwa [BitVec.getLsbD_and, hmask k hk16, decide_eq_true hk, Bool.and_true] at hbit
    · exact BitVec.getLsbD_of_ge f k (Nat.le_of_not_lt hk16)
  · intro h
    apply BitVec.eq_of_getLsbD_eq
    intro k hk
    rw [BitVec.getLsbD_and, hmask k hk]
    by_cases hk2 : 2 ≤ k
    · have hbit : f.getLsbD k = false :=
        Nat.testBit_lt_two_pow (Nat.lt_of_lt_of_le h (Nat.pow_le_pow_right (n := 2) (by decide) hk2))
      simp [hbit]
    · simp [hk2]

/-- In format N every bit of the three fields is reserved (R62). -/
theorem reservedClear_formatN {o : Opcode} {w : CmdWord} (ho : o.reserved = (0xFFFF#16, 0xFFFF#16, 0xFFFF#16)) :
    o.ReservedClear w ↔ aField w = 0#16 ∧ bField w = 0#16 ∧ cField w = 0#16 := by
  simp only [Opcode.ReservedClear, ho, and_FFFF_eq_zero_iff]

/-- In format R every bit but those of `r` is reserved (R62). -/
theorem reservedClear_setrot {w : CmdWord} :
    Opcode.setrot.ReservedClear w ↔ aField w = 0#16 ∧ bField w = 0#16 ∧ (cField w).toNat < 4 := by
  simp only [Opcode.ReservedClear, Opcode.reserved, and_FFFF_eq_zero_iff, and_FFFC_eq_zero_iff]

/-- In format P no bit is reserved (R62). -/
theorem reservedClear_setpix {w : CmdWord} : Opcode.setpix.ReservedClear w :=
  ⟨BitVec.and_zero, BitVec.and_zero, BitVec.and_zero⟩

/-- In format Q the field `c` is reserved (R62). -/
theorem reservedClear_getpix {w : CmdWord} : Opcode.getpix.ReservedClear w ↔ cField w = 0#16 := by
  simp only [Opcode.ReservedClear, Opcode.reserved, and_FFFF_eq_zero_iff, BitVec.and_zero, true_and]

theorem decode_eq_unassigned_iff {w : CmdWord} :
    decode w = .error (.unassignedOpcode (opField w)) ↔ opField w ∉ assignedOpcodes := by
  rw [decode_eq_error_iff, illegalReason]
  by_cases hmem : opField w ∈ assignedOpcodes
  · simp [hmem]
  · have hnone : ∀ o : Opcode, opField w = o.code → ¬ o.ReservedClear w :=
      fun o hop => absurd (mem_assignedOpcodes_iff.mpr ⟨o, hop⟩) hmem
    simp [hmem]
    exact hnone

theorem decode_eq_reservedBitSet_iff {w : CmdWord} :
    decode w = .error (.reservedBitSet (opField w)) ↔ ∃ o : Opcode, opField w = o.code ∧ ¬ o.ReservedClear w := by
  rw [decode_eq_error_iff, illegalReason]
  constructor
  · rintro ⟨hnone, hwhy⟩
    by_cases hmem : opField w ∈ assignedOpcodes
    · obtain ⟨o, hop⟩ := mem_assignedOpcodes_iff.mp hmem
      exact ⟨o, hop, hnone o hop⟩
    · simp [hmem] at hwhy
  · rintro ⟨o, hop, hres⟩
    refine ⟨fun o' hop' => ?_, by simp [mem_assignedOpcodes_iff.mpr ⟨o, hop⟩]⟩
    rwa [Opcode.code_injective (hop'.symm.trans hop)]

/-- Settles O4: the defect is the opcode when no row has it, and else a reserved bit of its row's format. -/
theorem illegalWordsAreThoseOfNoFormat : Obligations.IllegalWordsAreThoseOfNoFormat := by
  refine ⟨fun w => by simp [decode_eq_unassigned_iff, assignedOpcodes], fun w => decode_eq_reservedBitSet_iff.trans ⟨?_, ?_⟩⟩
  · rintro ⟨o, hop, hres⟩
    cases o with
    | init => exact .inl ⟨.inl hop, mt (reservedClear_formatN rfl).mpr hres⟩
    | setrot => exact .inr (.inl ⟨hop, mt reservedClear_setrot.mpr hres⟩)
    | setpix => exact absurd reservedClear_setpix hres
    | getpix => exact .inr (.inr ⟨hop, mt reservedClear_getpix.mpr hres⟩)
    | clrbuf => exact .inl ⟨.inr (.inl hop), mt (reservedClear_formatN rfl).mpr hres⟩
    | clrref => exact .inl ⟨.inr (.inr (.inl hop)), mt (reservedClear_formatN rfl).mpr hres⟩
    | refresh => exact .inl ⟨.inr (.inr (.inr hop)), mt (reservedClear_formatN rfl).mpr hres⟩
  · rintro (⟨hop | hop | hop | hop, hres⟩ | ⟨hop, hres⟩ | ⟨hop, hres⟩)
    · exact ⟨.init, hop, mt (reservedClear_formatN rfl).mp hres⟩
    · exact ⟨.clrbuf, hop, mt (reservedClear_formatN rfl).mp hres⟩
    · exact ⟨.clrref, hop, mt (reservedClear_formatN rfl).mp hres⟩
    · exact ⟨.refresh, hop, mt (reservedClear_formatN rfl).mp hres⟩
    · exact ⟨.setrot, hop, mt reservedClear_setrot.mp hres⟩
    · exact ⟨.getpix, hop, mt reservedClear_getpix.mp hres⟩

/-! Operands and their fields (R64, R65, R66, R80). -/

/-- A coordinate that fits is read back from its field (R64, R80). -/
theorem coordOfField_fieldOfCoord {v : Int} (h : coordFits v = true) : coordOfField (fieldOfCoord v) = v := by
  obtain ⟨hlo, hhi⟩ := (coordFits_iff v).mp h
  exact BitVec.toInt_ofInt_eq_self (by decide) (by simpa using hlo) (by simp; omega)

/-- A colour that fits is read back from its field (R65, R80). -/
theorem colourOfField_fieldOfColour {n : Nat} (h : colourFits n = true) : colourOfField (fieldOfColour n) = n :=
  Nat.mod_eq_of_lt (Nat.lt_succ_of_le ((colourFits_iff n).mp h))

/-- The field of the coordinate a field is read as (R64, R80). -/
@[simp] theorem fieldOfCoord_coordOfField (f : Field) : fieldOfCoord (coordOfField f) = f := BitVec.ofInt_toInt

/-- The field of the colour a field is read as (R65, R80). -/
@[simp] theorem fieldOfColour_colourOfField (f : Field) : fieldOfColour (colourOfField f) = f := by
  simp [fieldOfColour, colourOfField]

/-- What a field is read as fits it (R64). -/
@[simp] theorem coordFits_coordOfField (f : Field) : coordFits (coordOfField f) = true := by
  have hlo := BitVec.le_toInt f
  have hhi := BitVec.toInt_lt (x := f)
  rw [coordFits_iff, coordOfField]
  omega

/-- What a field is read as fits it (R65). -/
@[simp] theorem colourFits_colourOfField (f : Field) : colourFits (colourOfField f) = true :=
  (colourFits_iff _).mpr (Nat.le_of_lt_succ f.isLt)

@[simp] theorem Rot.ofBits_toBits (r : Rot) : Rot.ofBits r.toBits = r := by cases r <;> decide

@[simp] theorem Rot.toBits_ofBits : ∀ b : BitVec 2, (Rot.ofBits b).toBits = b := by decide

/-- The upper bits of the field of a rotation are 0 (R62). -/
theorem toNat_fieldOfRot (r : Rot) : (fieldOfRot r).toNat = r.toBits.toNat := by cases r <;> rfl

/-- The rotation operand is the low two bits of `c` (R66). -/
theorem rField_eq_cField (w : CmdWord) : rField w = (cField w).setWidth 2 := by
  apply BitVec.eq_of_toNat_eq
  simp [rField, cField]

/-- In format R the field `c` is its rotation operand (R62). -/
theorem fieldOfRot_rField {w : CmdWord} (h : (cField w).toNat < 4) : fieldOfRot (Rot.ofBits (rField w)) = cField w := by
  apply BitVec.eq_of_toNat_eq
  rw [toNat_fieldOfRot, Rot.toBits_ofBits, rField_eq_cField, BitVec.toNat_setWidth]
  exact Nat.mod_eq_of_lt h

/-! The two round trips (R80, R82). -/

/-- The word of a command matches the command's row (R63). -/
theorem encode_matches (i : Instr) : Laws.EncodedWord.Statement i := by
  cases i with
  | init => exact Laws.EncodedWord.init
  | setrot r => exact Laws.EncodedWord.setrot r
  | setpix x y colour => exact Laws.EncodedWord.setpix x y colour
  | getpix x y => exact Laws.EncodedWord.getpix x y
  | clrbuf => exact Laws.EncodedWord.clrbuf
  | clrref => exact Laws.EncodedWord.clrref
  | refresh => exact Laws.EncodedWord.refresh

/-- The word of a command decodes to a command of the same row, with the operands its fields hold (R82). -/
theorem decode_encode (i : Instr) : decode (encode i) = .ok (operandsOf (opcodeOf i) (encode i)) := by
  obtain ⟨row, hrow, hop, hmatch⟩ := encode_matches i
  rw [← hop]
  exact decode_of_and_mask_eq hrow (beq_iff_eq.mp hmatch)

/-- The operands of a well-formed command are read back from its word (R64 to R66). -/
theorem operandsOf_encode {i : Instr} (h : i.wellFormed = true) : operandsOf (opcodeOf i) (encode i) = i := by
  cases i with
  | init | clrbuf | clrref | refresh => rfl
  | setrot r => cases r <;> rfl
  | setpix x y colour =>
    simp only [Instr.wellFormed, Bool.and_eq_true] at h
    obtain ⟨⟨hx, hy⟩, hcolour⟩ := h
    simp [opcodeOf, operandsOf, encode, aField_packWord, bField_packWord, cField_packWord, coordOfField_fieldOfCoord hx,
      coordOfField_fieldOfCoord hy, colourOfField_fieldOfColour hcolour]
  | getpix x y =>
    simp only [Instr.wellFormed, Bool.and_eq_true] at h
    obtain ⟨hx, hy⟩ := h
    simp [opcodeOf, operandsOf, encode, aField_packWord, bField_packWord, coordOfField_fieldOfCoord hx,
      coordOfField_fieldOfCoord hy]

/-- Settles O5: the word of a command matches its row, and each operand that fits its field is read back. -/
theorem decodeEncodeRoundTrip : Obligations.DecodeEncodeRoundTrip := fun i h => by
  rw [decode_encode, operandsOf_encode h]

theorem wellFormed_operandsOf (o : Opcode) (w : CmdWord) : (operandsOf o w).wellFormed = true := by
  cases o <;> simp [operandsOf, Instr.wellFormed]

/-- A word with no reserved bit set is the word of the command its fields are read as (R62, R80). -/
theorem encode_operandsOf {o : Opcode} {w : CmdWord} (hop : opField w = o.code) (hres : o.ReservedClear w) :
    encode (operandsOf o w) = w := by
  conv => rhs; rw [← packWord_fields w, hop]
  cases o with
  | init | clrbuf | clrref | refresh =>
    obtain ⟨ha, hb, hc⟩ := (reservedClear_formatN rfl).mp hres
    rw [ha, hb, hc]
    rfl
  | setrot =>
    obtain ⟨ha, hb, hc⟩ := reservedClear_setrot.mp hres
    rw [operandsOf, encode, fieldOfRot_rField hc, ha, hb]
    rfl
  | setpix => simp [operandsOf, encode, Opcode.code]
  | getpix => simp [operandsOf, encode, Opcode.code, reservedClear_getpix.mp hres]

/-- Settles O6: the fields of a word that decodes are those of its command. -/
theorem encodeDecodeRoundTrip : Obligations.EncodeDecodeRoundTrip := fun w i h => by
  obtain ⟨o, hop, hres, rfl⟩ := decode_eq_ok_iff.mp h
  exact ⟨wellFormed_operandsOf o w, encode_operandsOf hop hres⟩

/-! The two readings of a coordinate field (R64). -/

/-- A field that does not read as negative reads the same signed and unsigned. -/
theorem coordOfField_eq_toNat {f : Field} (h : 0 ≤ coordOfField f) : coordOfField f = f.toNat :=
  BitVec.toInt_eq_toNat_of_msb (BitVec.msb_eq_toInt.trans (decide_eq_false (Int.not_lt.mpr h)))

/-- Below a bound that 15 bits hold, the two readings of a field agree: a field that reads as negative is too big unsigned. -/
theorem coordOfField_inRange_iff {f : Field} {n : Nat} (hn : n ≤ 32768) :
    (0 ≤ coordOfField f ∧ coordOfField f < n) ↔ (0 ≤ (f.toNat : Int) ∧ (f.toNat : Int) < n) := by
  rw [coordOfField, BitVec.toInt_eq_toNat_cond]
  split <;> omega

end Sys2Proof

namespace Sys2Proof.Machine

/-- The logical width fits 15 bits (R7, R8, R90). -/
theorem logicalWidth_le (c : Instance) (r : Rot) : logicalWidth c r ≤ 32768 := by
  have hw := width_le c
  have hh := height_le c
  cases r <;> simp only [logicalWidth] <;> omega

/-- The logical height fits 15 bits (R7, R8, R90). -/
theorem logicalHeight_le (c : Instance) (r : Rot) : logicalHeight c r ≤ 32768 := by
  have hw := width_le c
  have hh := height_le c
  cases r <;> simp only [logicalHeight] <;> omega

/-- Settles O7: no panel is so large that a field with its sign bit set is in range unsigned. -/
theorem signednessChangesNoOutcome : Obligations.SignednessChangesNoOutcome := fun c r _ _ =>
  ⟨and_congr (coordOfField_inRange_iff (logicalWidth_le c r)) (coordOfField_inRange_iff (logicalHeight_le c r)),
   fun ⟨⟨hx, _⟩, hy, _⟩ => ⟨coordOfField_eq_toNat hx, coordOfField_eq_toNat hy⟩⟩

/-! A word at the command port (R68, R82, R182, R200). -/

section
variable {s : State} {cw : CmdWord} {rest : List HostAct} (hb : s.busy = false) (hin : s.hostIn = .word cw :: rest)
include hb hin

/-- While `BUSY = 0` the word first in line is accepted (R182). -/
theorem State.nextAct_word : s.nextAct = .accept cw (s.setHostIn rest) := by
  simp [State.nextAct, hb, hin]

/-- An accepted word that decodes is carried out (R82). -/
theorem step_of_decode_ok {i : Instr} (hdec : decode cw = .ok i) : step s = exec i (s.setHostIn rest) := by
  simp only [step, State.nextAct_word hb hin, hdec]

/-- An accepted word that is illegal is rejected (R68). -/
theorem step_of_decode_error {why : Illegal} (hdec : decode cw = .error why) :
    step s = .next ((s.setHostIn rest).reject .illegal) := by
  simp only [step, State.nextAct_word hb hin, hdec, rejectIllegal]

end

/-- Settles O8: taking the word off the port is the only other thing the step does. -/
theorem stepRunsDecodedWord : Obligations.StepRunsDecodedWord := fun _ _ _ _ hb hin hdec =>
  step_of_decode_ok hb hin hdec

/-- Settles O9: the rejection is the answer, and no check of `READY` comes before it. -/
theorem illegalWordRejected : Obligations.IllegalWordRejected := fun _ _ _ _ hb hin hdec =>
  step_of_decode_error hb hin hdec

/-! The one bit a `SETPIX` writes (R31, R95). -/

/-- The mask of bit `n` has that bit and no other (R31). -/
theorem getLsbD_setMask : ∀ n < 8, ∀ j < 8, (setMask n).getLsbD j = decide (j = n) := by decide

/-- Colour 0 clears the bit that the mask selects (R65, R95). -/
theorem putPixel_dark (old : Byte) {n colour : Nat} (hn : n < 8) (hc : colour = 0) :
    putPixel old n colour = old &&& ~~~ setMask n := by
  obtain ⟨-, -, hclr⟩ := masksArePowersOfTwo n hn
  simp [putPixel, colourOn, hc, hclr]

/-- Every other colour sets it (R65, R95). -/
theorem putPixel_light (old : Byte) (n : Nat) {colour : Nat} (hc : colour ≠ 0) :
    putPixel old n colour = old ||| setMask n := by
  simp [putPixel, colourOn, hc]

/-- The byte written back holds the colour's pixel value in bit `n`, and its other bits as before (R65, R95). -/
theorem getLsbD_putPixel (old : Byte) {n j : Nat} (colour : Nat) (hn : n < 8) (hj : j < 8) :
    (putPixel old n colour).getLsbD j = if j = n then decide (colour ≠ 0) else old.getLsbD j := by
  have hmask := getLsbD_setMask n hn j hj
  by_cases hc : colour = 0
  · rw [putPixel_dark old hn hc, BitVec.getLsbD_and, BitVec.getLsbD_not, hmask]
    by_cases hjn : j = n <;> simp [hc, hj, hjn]
  · rw [putPixel_light old n hc, BitVec.getLsbD_or, hmask]
    by_cases hjn : j = n <;> simp [hc, hjn]

/-- The bit of a pixel lies inside its byte (R94). -/
theorem pixelBit_lt (c : Instance) (r : Rot) (x y : Int) : pixelBit c r x y < 8 := Nat.mod_lt _ (by decide)

/-- What an in-range `SETPIX` does with `READY = 1`: one byte of `PB` written, and the answer (R95). -/
theorem exec_setpix_inRange {s : State} {x y : Int} (colour : Nat) (hs : s.Ready) (hin : InRange s.cfg s.rot x y) :
    exec (.setpix x y colour) s =
      .next ((s.setPb (Memory.write s.pb (pixelByte s.cfg s.rot x y)
        (putPixel (s.pbByte (pixelByte s.cfg s.rot x y)) (pixelBit s.cfg s.rot x y) colour))).respond false) := by
  obtain ⟨hb, hr⟩ := hs
  rw [exec, execSetpix, admitCommand_ready _ _ hb hr, if_pos hin, writePixel_inside _ _ _ _ (pixelByte_lt_nbytes hin)]

@[simp] theorem State.respond_pbByte (s : State) (val : Bool) (a : Nat) : (s.respond val).pbByte a = s.pbByte a := rfl

/-- Settles O27: the byte of the pixel is written back with one bit replaced. -/
theorem setpixWritesOneBit : Obligations.SetpixWritesOneBit := by
  intro s x y colour hs hin
  have hn := pixelBit_lt s.cfg s.rot x y
  refine ⟨_, exec_setpix_inRange colour hs hin, rfl, ?_, fun j hj hjn => ?_, fun a ha => ?_⟩
  · simp [State.pbByte_setPb_write, getLsbD_putPixel _ colour hn hn]
  · simp [State.pbByte_setPb_write, getLsbD_putPixel _ colour hn hj, hjn]
  · simp [State.pbByte_setPb_write, ha]

/-! Who answers (R67). -/

/-- The response of a command that is accepted and ends in one step, and the two commands whose response comes later
(R67, R200). -/
theorem exec_answers {i : Instr} {s t : State} (h : exec i s = .next t) :
    t.hostIn = s.hostIn ∧
      ((t.busy = false ∧ ∃ r : Response, t.rsps = s.rsps ++ [r]) ∨
       (t.busy = true ∧ t.rsps = s.rsps ∧ (i = .refresh ∨ i = .clrref))) := by
  cases i with
  | init => obtain ⟨hb, ⟨-, rfl⟩ | ⟨-, -, rfl⟩ | ⟨-, -, rfl⟩⟩ := execInit_next_cases h <;> simp [hb]
  | setrot r => obtain ⟨hb, ⟨-, rfl⟩ | ⟨-, rfl⟩⟩ := admitCommand_next_next_cases h <;> simp [hb]
  | setpix x y colour => obtain ⟨hb, ⟨-, -, rfl⟩ | ⟨-, -, rfl⟩ | ⟨-, rfl⟩⟩ := execSetpix_next_cases h <;> simp [hb]
  | getpix x y => obtain ⟨hb, ⟨-, val, rfl⟩ | ⟨-, rfl⟩⟩ := execGetpix_next_cases h <;> simp [hb]
  | clrbuf => obtain ⟨hb, ⟨-, rfl⟩ | ⟨-, rfl⟩⟩ := admitCommand_next_next_cases h <;> simp [hb, State.clearPb]
  | clrref =>
    obtain ⟨hb, ⟨-, rfl⟩ | ⟨-, rfl⟩⟩ := admitCommand_next_next_cases h
    · simp [startRefresh_eq, State.clearPb]
    · simp [hb]
  | refresh =>
    obtain ⟨hb, ⟨-, rfl⟩ | ⟨-, rfl⟩⟩ := admitCommand_next_next_cases h
    · simp [startRefresh_eq]
    · simp [hb]

/-- Of the sequencer's steps only the finish step answers (R125). -/
theorem sequencerStep_rsps {s t : State} (h : sequencerStep s = .next t) :
    t.rsps = s.rsps ++ (if s.pos = frameLen s.cfg then [{ ok := true, val := false, why := none }] else []) := by
  obtain ⟨hp, -, rfl⟩ | ⟨hp, -, rfl⟩ | ⟨hp, rfl⟩ := sequencerStep_next_cases h
  · simp [takeByte_eq, State.passMoment, Nat.ne_of_lt hp]
  · simp [State.passMoment, Nat.ne_of_lt hp]
  · simp [finishRefresh_eq, hp]

/-- An accepted word is answered at once, or it starts a refresh (R67, R182). -/
theorem step_word_answers {s t : State} {cw : CmdWord} {rest : List HostAct} (h : step s = .next t) (hb : s.busy = false)
    (hin : s.hostIn = .word cw :: rest) :
    t.hostIn = rest ∧
      ((t.busy = false ∧ ∃ r : Response, t.rsps = s.rsps ++ [r]) ∨
       (t.busy = true ∧ t.rsps = s.rsps ∧ (decode cw = .ok .refresh ∨ decode cw = .ok .clrref))) := by
  cases hdec : decode cw with
  | ok i => simpa using exec_answers ((step_of_decode_ok hb hin hdec).symm.trans h)
  | error why =>
    obtain rfl := Host.Outcome.next.inj ((step_of_decode_error hb hin hdec).symm.trans h)
    simp [hb]

/-- With no word at the port and `BUSY = 0` a step answers nothing (R201). -/
theorem step_noWord_rsps {s t : State} (h : step s = .next t) (hb : s.busy = false)
    (hnone : ∀ (cw : CmdWord) (rest : List HostAct), s.hostIn ≠ .word cw :: rest) : t.rsps = s.rsps := by
  obtain ⟨hbusy, -⟩ | ⟨-, -, rfl⟩ | ⟨-, rest, -, rfl⟩ | ⟨-, cw, rest, hin, -⟩ := step_next_cases h
  · simp [hb] at hbusy
  · rfl
  · rfl
  · exact absurd hin (hnone cw rest)

/-- Settles O59: each kind of step has its count of responses. -/
theorem oneResponsePerWord : Obligations.OneResponsePerWord := fun _ _ h =>
  ⟨fun hb => sequencerStep_rsps (sequencerStep_of_step_of_busy hb h), fun _ _ hb hin => step_word_answers h hb hin,
   step_noWord_rsps h⟩

end Sys2Proof.Machine
end

section
/-! PROOFS. The pixel family (`40_pixel_buffer_ops.md`): the orientation transform and its inverse, the place of a pixel in the
buffer, and what `SETPIX`, `GETPIX` and `CLRBUF` do to the pixels under every rotation. -/

namespace Sys2Proof.Machine

/-! The logical size (R90, R148). -/

/-- Settles O22: the four rows of R90. -/
theorem logicalSizeOfRotation : Obligations.LogicalSizeOfRotation := fun _ =>
  ⟨⟨rfl, rfl⟩, ⟨rfl, rfl⟩, ⟨rfl, rfl⟩, rfl, rfl⟩

/-- The 16 bits of the width port hold the logical width (R148). -/
theorem State.oWidth_toNat (s : State) : s.oWidth.toNat = logicalWidth s.cfg s.rot := by
  have h := logicalWidth_le s.cfg s.rot
  rw [State.oWidth, BitVec.toNat_ofNat, Nat.mod_eq_of_lt (by omega)]

/-- The 16 bits of the height port hold the logical height (R148). -/
theorem State.oHeight_toNat (s : State) : s.oHeight.toNat = logicalHeight s.cfg s.rot := by
  have h := logicalHeight_le s.cfg s.rot
  rw [State.oHeight, BitVec.toNat_ofNat, Nat.mod_eq_of_lt (by omega)]

/-- Settles O19: the ports hold the logical size, and the rotation chooses which side is which. -/
theorem statusPortsShowLogicalSize : Obligations.StatusPortsShowLogicalSize := by
  intro s
  rw [s.oWidth_toNat, s.oHeight_toNat]
  refine ⟨rfl, ?_, ?_⟩
  · rintro (h | h) <;> rw [h] <;> exact ⟨rfl, rfl⟩
  · rintro (h | h) <;> rw [h] <;> exact ⟨rfl, rfl⟩

/-! The orientation transform and its inverse (R92, R93). -/

/-- Settles O23: in range no difference is negative, so none is cut off. -/
theorem transformClosedForms : Obligations.TransformClosedForms := by
  intro c x y
  refine ⟨?_, ?_, ?_, ?_, fun r h => phys_lt h⟩ <;> rintro ⟨⟨hx, hx'⟩, hy, hy'⟩ <;>
    simp only [logicalWidth, logicalHeight] at hx' hy'
  · exact ⟨Int.toNat_of_nonneg hx, Int.toNat_of_nonneg hy⟩
  · exact ⟨Int.toNat_of_nonneg (by omega), Int.toNat_of_nonneg hx⟩
  · exact ⟨Int.toNat_of_nonneg (by omega), Int.toNat_of_nonneg (by omega)⟩
  · exact ⟨Int.toNat_of_nonneg hy, Int.toNat_of_nonneg (by omega)⟩

/-- On the logical rectangle `logi` undoes the transform (R93). -/
theorem logi_phys {c : Instance} {r : Rot} {x y : Int} (h : InRange c r x y) :
    logi c r (phys c r x y).1 (phys c r x y).2 = (x, y) := by
  obtain ⟨h0, h1, h2, h3, -⟩ := transformClosedForms c x y
  cases r with
  | r0 => obtain ⟨hxp, hyp⟩ := h0 h; simp only [logi, hxp, hyp]
  | r1 => obtain ⟨hxp, hyp⟩ := h1 h; simp only [logi, hxp, hyp, Int.sub_sub_self]
  | r2 => obtain ⟨hxp, hyp⟩ := h2 h; simp only [logi, hxp, hyp, Int.sub_sub_self]
  | r3 => obtain ⟨hxp, hyp⟩ := h3 h; simp only [logi, hxp, hyp, Int.sub_sub_self]

/-- Every physical pixel has a logical coordinate (R93). -/
theorem logi_inRange {c : Instance} {xp yp : Nat} (r : Rot) (hx : xp < c.width) (hy : yp < c.height) :
    InRange c r (logi c r xp yp).1 (logi c r xp yp).2 := by
  cases r <;> simp only [InRange, logicalWidth, logicalHeight, logi] <;> omega

/-- The transform undoes `logi` (R93). -/
theorem phys_logi (c : Instance) (r : Rot) (xp yp : Nat) : phys c r (logi c r xp yp).1 (logi c r xp yp).2 = (xp, yp) := by
  cases r <;> simp only [phys, logi, Prod.mk.injEq] <;> omega

/-- The coordinate that goes to a given physical pixel is the one `logi` gives (R93). -/
theorem phys_eq_iff {c : Instance} {r : Rot} {x y : Int} {p : Nat × Nat} (h : InRange c r x y) :
    phys c r x y = p ↔ (x, y) = logi c r p.1 p.2 := by
  constructor
  · rintro rfl
    exact (logi_phys h).symm
  · intro hxy
    simpa only [← hxy] using phys_logi c r p.1 p.2

/-- Under one rotation distinct coordinates go to distinct physical pixels (R93). -/
theorem phys_inj {c : Instance} {r : Rot} {x y x' y' : Int} (h : InRange c r x y) (h' : InRange c r x' y')
    (heq : phys c r x y = phys c r x' y') : (x, y) = (x', y') := by
  rw [← logi_phys h, heq, logi_phys h']

/-! The place of a pixel in the buffer (R41, R94). -/

/-- A line is a whole number of bytes, so the byte address is counted line by line (R41, R94). -/
theorem byteAddr_eq (c : Instance) (xp yp : Nat) : byteAddr c xp yp = yp * bpl c + xp / 8 := by
  rw [byteAddr, width_eq, Nat.mul_left_comm, Nat.mul_add_div (by decide)]

/-- Byte address and bit position together are the number of the pixel, counted line by line (R41). -/
theorem byteAddr_bitPos (c : Instance) (xp yp : Nat) : 8 * byteAddr c xp yp + bitPos xp = xp + c.width * yp := by
  have hline : c.width * yp = 8 * (yp * bpl c) := by rw [width_eq, Nat.mul_assoc, Nat.mul_comm yp]
  rw [byteAddr_eq, bitPos, hline]
  omega

/-- Distinct physical pixels have distinct bits of the buffer (R41, R93). -/
theorem eq_of_byteAddr_bitPos {c : Instance} {p q : Nat × Nat} (hp : p.1 < c.width) (hq : q.1 < c.width)
    (hbyte : byteAddr c p.1 p.2 = byteAddr c q.1 q.2) (hbit : bitPos p.1 = bitPos q.1) : p = q := by
  have hnumber : p.1 + c.width * p.2 = q.1 + c.width * q.2 := by
    rw [← byteAddr_bitPos, ← byteAddr_bitPos, hbyte, hbit]
  have hdiv := congrArg (· / c.width) hnumber
  have hmod := congrArg (· % c.width) hnumber
  have hw : 0 < c.width := Nat.zero_lt_of_lt hp
  simp only [Nat.add_mul_div_left _ _ hw, Nat.div_eq_of_lt hp, Nat.div_eq_of_lt hq, Nat.zero_add] at hdiv
  simp only [Nat.add_mul_mod_self_left, Nat.mod_eq_of_lt hp, Nat.mod_eq_of_lt hq] at hmod
  exact Prod.ext hmod hdiv

/-- Two coordinates, each under its own rotation, have the same bit of the buffer exactly when they are the same physical pixel
(R93, R100). -/
theorem samePlace_iff {c : Instance} {r r' : Rot} {x y x' y' : Int} (h : InRange c r x y) (h' : InRange c r' x' y') :
    (pixelByte c r x y = pixelByte c r' x' y' ∧ pixelBit c r x y = pixelBit c r' x' y') ↔ phys c r x y = phys c r' x' y' := by
  constructor
  · rintro ⟨hbyte, hbit⟩
    exact eq_of_byteAddr_bitPos (phys_lt h).1 (phys_lt h').1 hbyte hbit
  · intro hphys
    simp only [pixelByte, pixelBit, hphys, and_self]

/-- Settles O24: `logi` is the inverse on both sides, and a physical pixel is known from its bit. -/
theorem transformIsBijection : Obligations.TransformIsBijection :=
  ⟨fun _ _ _ _ _ => ⟨rfl, rfl, rfl, rfl⟩, fun _ _ _ _ h => logi_phys h,
   fun c r xp yp hx hy => ⟨logi_inRange r hx hy, phys_logi c r xp yp⟩,
   fun _ _ _ _ _ _ h h' hbyte hbit => Prod.mk.inj (phys_inj h h' ((samePlace_iff h h').mp ⟨hbyte, hbit⟩))⟩

/-- The mask of bit `n` is the power of two (R31). -/
theorem setMask_eq_twoPow : ∀ n < 8, setMask n = BitVec.twoPow 8 n := by decide

/-- A byte masked by `SETMASK[n]` is not 0 exactly when its bit `n` is set (R31, R96). -/
theorem and_setMask_ne_zero_iff (byte : Byte) {n : Nat} (hn : n < 8) :
    byte &&& setMask n ≠ 0#8 ↔ byte.getLsbD n = true := by
  have hmask : setMask n ≠ 0#8 := fun h => by simpa [h] using getLsbD_setMask n hn n hn
  rw [setMask_eq_twoPow n hn] at hmask ⊢
  cases hbit : byte.getLsbD n <;> simp [BitVec.and_twoPow, hbit, hmask]

/-- Settles O25: an in-range pixel lies inside the panel, and a panel is `NBYTES` whole bytes. -/
theorem bufferIndexInsideBuffer : Obligations.BufferIndexInsideBuffer := fun c r x y h =>
  have hn := pixelBit_lt c r x y
  ⟨rfl, byteAddr_eq c _ _, pixelByte_lt_nbytes h, rfl, Nat.le_of_lt_succ hn, fun byte => and_setMask_ne_zero_iff byte hn⟩

/-! The pixels of a state, and what the commands do to them (R95 to R97). -/

/-- The pixel value that the buffer holds for a logical coordinate under rotation `r` (R94, R96). -/
def State.pixelValue (s : State) (r : Rot) (x y : Int) : Bool :=
  (s.pbByte (pixelByte s.cfg r x y)).getLsbD (pixelBit s.cfg r x y)

@[simp] theorem State.respond_pixelValue (s : State) (val : Bool) (r : Rot) (x y : Int) :
    (s.respond val).pixelValue r x y = s.pixelValue r x y := rfl

@[simp] theorem State.setRot_pixelValue (s : State) (r₂ r : Rot) (x y : Int) :
    (s.setRot r₂).pixelValue r x y = s.pixelValue r x y := rfl

/-- In the cleared buffer every pixel is light (R97). -/
theorem State.clearPb_pixelValue {s : State} {r : Rot} {x y : Int} (h : InRange s.cfg r x y) :
    s.clearPb.pixelValue r x y = true := by
  have hlight : s.clearPb.pbByte (pixelByte s.cfg r x y) = 0xFF#8 := by
    rw [State.pbByte_clearPb, if_pos (pixelByte_lt_nbytes h)]
  have hbits : ∀ n < 8, (0xFF#8).getLsbD n = true := by decide
  rw [State.pixelValue, State.clearPb_cfg, hlight, hbits _ (pixelBit_lt s.cfg r x y)]

/-- The test of `GETPIX` reads the bit (R96). -/
theorem pixelOn_eq_getLsbD (byte : Byte) {n : Nat} (hn : n < 8) : pixelOn byte n = byte.getLsbD n := by
  rw [pixelOn, Bool.eq_iff_iff, bne_iff_ne, and_setMask_ne_zero_iff byte hn]

section
variable {s : State} (hs : s.Ready)
include hs

/-- In range `GETPIX` answers the pixel value (R96). -/
theorem exec_getpix_inRange {x y : Int} (hin : InRange s.cfg s.rot x y) :
    exec (.getpix x y) s = .next (s.respond (s.pixelValue s.rot x y)) := by
  obtain ⟨hb, hr⟩ := hs
  rw [exec, execGetpix, admitCommand_ready _ _ hb hr, if_pos hin, memRead_inside _ _ (pixelByte_lt_nbytes hin)]
  simp only [pixelOn_eq_getLsbD _ (pixelBit_lt s.cfg s.rot x y), State.pixelValue]

/-- Out of range `GETPIX` answers dark (R91, R96). -/
theorem exec_getpix_outOfRange {x y : Int} (hout : ¬ InRange s.cfg s.rot x y) :
    exec (.getpix x y) s = .next (s.respond false) := by
  obtain ⟨hb, hr⟩ := hs
  rw [exec, execGetpix, admitCommand_ready _ _ hb hr, if_neg hout]

/-- Out of range `SETPIX` only answers (R91, R95). -/
theorem exec_setpix_outOfRange {x y : Int} (colour : Nat) (hout : ¬ InRange s.cfg s.rot x y) :
    exec (.setpix x y colour) s = .next (s.respond false) := by
  obtain ⟨hb, hr⟩ := hs
  rw [exec, execSetpix, admitCommand_ready _ _ hb hr, if_neg hout]

/-- `SETROT` with `READY = 1` (R147). -/
theorem exec_setrot_ready (r : Rot) : exec (.setrot r) s = .next ((s.setRot r).respond false) :=
  admitCommand_ready _ _ hs.1 hs.2

/-- `CLRBUF` with `READY = 1` (R97). -/
theorem exec_clrbuf_ready : exec .clrbuf s = .next (s.clearPb.respond false) :=
  admitCommand_ready _ _ hs.1 hs.2

/-- After an in-range `SETPIX` the block is ready as before, the physical pixel addressed holds the colour's value under every
rotation, and every other pixel is as it was (R95, R100). -/
theorem exec_setpix_pixelValue {x y : Int} (colour : Nat) (hin : InRange s.cfg s.rot x y) :
    ∃ t : State, exec (.setpix x y colour) s = .next t ∧ t.Ready ∧ t.cfg = s.cfg ∧ t.rot = s.rot ∧
      ∀ (r : Rot) (x' y' : Int), InRange s.cfg r x' y' →
        t.pixelValue r x' y' =
          if phys s.cfg r x' y' = phys s.cfg s.rot x y then decide (colour ≠ 0) else s.pixelValue r x' y' := by
  obtain ⟨t, hexec, ht, hwritten, hbits, hbytes⟩ := setpixWritesOneBit s x y colour hs hin
  have hcfg : t.cfg = s.cfg := by rw [ht]
  have hrot : t.rot = s.rot := by rw [ht]
  have hready : t.Ready := by rw [ht]; exact hs
  refine ⟨t, hexec, hready, hcfg, hrot, fun r x' y' hin' => ?_⟩
  simp only [← samePlace_iff hin' hin, State.pixelValue, hcfg]
  by_cases hbyte : pixelByte s.cfg r x' y' = pixelByte s.cfg s.rot x y
  · by_cases hbit : pixelBit s.cfg r x' y' = pixelBit s.cfg s.rot x y
    · rw [if_pos ⟨hbyte, hbit⟩, hbyte, hbit, hwritten]
    · rw [if_neg (fun h => hbit h.2), hbyte, hbits _ (pixelBit_lt s.cfg r x' y') hbit]
  · rw [if_neg (fun h => hbyte h.1), hbytes _ hbyte]

end

/-- Settles O29: `GETPIX` in range answers the pixel value. -/
theorem getpixReadsTheBit : Obligations.GetpixReadsTheBit := fun _ _ _ hs hin => exec_getpix_inRange hs hin

/-- Settles O28: out of range both commands only answer. -/
theorem outOfRangeIsIgnored : Obligations.OutOfRangeIsIgnored := fun _ _ _ colour hs hout =>
  ⟨exec_setpix_outOfRange hs colour hout, exec_getpix_outOfRange hs hout⟩

/-- Settles O32: the clearing pass covers the buffer and nothing else. -/
theorem clrbufFillsWithLight : Obligations.ClrbufFillsWithLight := fun s hs =>
  ⟨_, exec_clrbuf_ready hs, rfl, fun a ha => by rw [State.respond_pbByte, State.pbByte_clearPb, if_pos ha],
   fun a ha => by rw [State.respond_pbByte, State.pbByte_clearPb, if_neg ha]⟩

/-- Settles O33: in the cleared buffer every pixel is light, whichever rotation looks at it. -/
theorem afterClearEveryPixelIsLight : Obligations.AfterClearEveryPixelIsLight := by
  intro s r x y hs
  have ht : (s.clearPb.respond false).Ready := hs
  have hu : (((s.clearPb.respond false).setRot r).respond false).Ready := hs
  by_cases hin : InRange s.cfg r x y
  · refine ⟨_, _, _, exec_clrbuf_ready hs, exec_setrot_ready ht r, exec_getpix_inRange hu hin, ?_⟩
    simp [State.clearPb_pixelValue hin, hin]
  · refine ⟨_, _, _, exec_clrbuf_ready hs, exec_setrot_ready ht r, exec_getpix_outOfRange hu hin, ?_⟩
    simp [hin]

/-! The laws of the pixels (R98 to R100). -/

/-- Settles O30: the pixel written is the pixel read. -/
theorem setpixThenGetpix : Obligations.SetpixThenGetpix := by
  intro s x y colour hs hin
  obtain ⟨t, hexec, ht, hcfg, hrot, hpixel⟩ := exec_setpix_pixelValue hs colour hin
  have hin' : InRange t.cfg t.rot x y := by rwa [hcfg, hrot]
  refine ⟨t, _, hexec, exec_getpix_inRange ht hin', ?_⟩
  rw [State.respond_rsps, hrot, hpixel _ _ _ hin, if_pos rfl]

/-- Settles O31: another coordinate is another physical pixel, which the `SETPIX` leaves as it was. -/
theorem setpixDoesNotInterfere : Obligations.SetpixDoesNotInterfere := by
  refine ⟨fun s x y x' y' colour hs hin hin' hne => ?_, fun s x y colour hs hout => ?_⟩
  · obtain ⟨t, hexec, ht, hcfg, hrot, hpixel⟩ := exec_setpix_pixelValue hs colour hin
    have hint : InRange t.cfg t.rot x' y' := by rwa [hcfg, hrot]
    have hphys : phys s.cfg s.rot x' y' ≠ phys s.cfg s.rot x y := fun h => hne (phys_inj hin' hin h).symm
    refine ⟨t, _, _, s.pixelValue s.rot x' y', hexec, exec_getpix_inRange hs hin', rfl, exec_getpix_inRange ht hint, ?_⟩
    rw [State.respond_rsps, hrot, hpixel _ _ _ hin', if_neg hphys]
  · exact ⟨_, _, exec_setpix_outOfRange hs colour hout, rfl, exec_getpix_outOfRange hs hout, rfl⟩

/-- Settles O34: both rotations address the same physical pixels, and `logi` says which coordinate each has. -/
theorem rotationIsAView : Obligations.RotationIsAView := by
  refine ⟨fun c r₁ r₂ x y hin => ?_, fun s x y x' y' colour r₂ hs hin hin' => ?_⟩
  · obtain ⟨hx, hy⟩ := phys_lt hin
    exact ⟨logi_inRange r₂ hx hy, fun x' y' hin' => (samePlace_iff hin' hin).trans (phys_eq_iff hin')⟩
  · obtain ⟨t, hexec, ht, hcfg, -, hpixel⟩ := exec_setpix_pixelValue hs colour hin
    have hu : ((t.setRot r₂).respond false).Ready := ht
    have hinu : InRange t.cfg r₂ x' y' := by rwa [hcfg]
    refine ⟨t, _, _, hexec, exec_setrot_ready ht r₂, exec_getpix_inRange hu hinu, ?_⟩
    have hvalue := hpixel r₂ x' y' hin'
    simp only [phys_eq_iff hin'] at hvalue
    rw [State.respond_rsps, State.respond_rot, State.setRot_rot, State.respond_pixelValue, State.setRot_pixelValue, hvalue]
    rfl

end Sys2Proof.Machine
end

section
/-! PROOFS. The frame family (`41_frame_encoder.md`): the positions of a frame and what is read back from it, the start step of
`REFRESH` and `CLRREF`, the sequencer's steps, and the run of a refresh to its end. -/

namespace Sys2Proof.Machine

/-! The positions of a frame (R112). -/

/-- A frame position is the header's, the terminator's, or byte `j` of the record of a line `i` (R112). -/
theorem position_cases {c : Instance} {p : Nat} (hp : p < frameLen c) :
    p = 0 ∨ p = frameLen c - 1 ∨ ∃ i j, i < c.height ∧ j < bpl c + 1 ∧ p = 1 + (i * (bpl c + 1) + j) := by
  by_cases h0 : p = 0
  · exact .inl h0
  by_cases hlast : p = frameLen c - 1
  · exact .inr (.inl hlast)
  have hq : p - 1 < (bpl c + 1) * c.height := by
    rw [frameLen, Nat.mul_comm, Nat.add_comm 1 (bpl c)] at hp hlast
    omega
  refine .inr (.inr ⟨(p - 1) / (bpl c + 1), (p - 1) % (bpl c + 1), Nat.div_lt_of_lt_mul hq, Nat.mod_lt _ (Nat.succ_pos _), ?_⟩)
  rw [Nat.div_add_mod']
  omega

/-- A byte of a line record stands before the terminator. -/
theorem linePosition_lt {c : Instance} {i j : Nat} (hi : i < c.height) (hj : j < bpl c + 1) :
    1 + (i * (bpl c + 1) + j) < frameLen c := by
  have hline : i * (bpl c + 1) + j < c.height * (bpl c + 1) := by
    calc i * (bpl c + 1) + j < (i + 1) * (bpl c + 1) := by rw [Nat.succ_mul]; omega
      _ ≤ c.height * (bpl c + 1) := Nat.mul_le_mul_right _ hi
  rw [frameLen, Nat.add_comm 1 (bpl c)]
  omega

/-- The place of byte `j` of line `i`, as R112 writes it. -/
theorem linePosition_eq (c : Instance) (i j : Nat) : 1 + (i * (bpl c + 1) + j) = 1 + i * (1 + bpl c) + j := by
  rw [Nat.add_comm (bpl c), Nat.add_assoc]

/-- The position that a decomposition names (R112). -/
def Phase.position (c : Instance) : Phase → Nat
  | .hdr => 0
  | .addr line => 1 + line * (1 + bpl c)
  | .data line col => 1 + line * (1 + bpl c) + 1 + col
  | .term => frameLen c - 1

/-- The line and the column of a decomposition lie inside the panel (R112). -/
def Phase.InPanel (c : Instance) : Phase → Prop
  | .hdr => True
  | .addr line => line < c.height
  | .data line col => line < c.height ∧ col < bpl c
  | .term => True

/-- The decomposition of a position names it, with line and column inside the panel (R112). -/
theorem phaseOf_spec {c : Instance} {p : Nat} (hp : p < frameLen c) :
    (phaseOf c p).position c = p ∧ (phaseOf c p).InPanel c := by
  obtain rfl | rfl | ⟨i, j, hi, hj, rfl⟩ := position_cases hp
  · rw [phaseOf_zero]
    exact ⟨rfl, trivial⟩
  · rw [phaseOf_last]
    exact ⟨rfl, trivial⟩
  · rw [phaseOf_line c hi hj]
    cases j with
    | zero =>
      rw [if_pos rfl]
      exact ⟨(linePosition_eq c i 0).symm, hi⟩
    | succ col =>
      rw [if_neg (Nat.succ_ne_zero col), Nat.add_sub_cancel]
      exact ⟨by rw [Phase.position, linePosition_eq, Nat.add_comm col, Nat.add_assoc], hi, Nat.lt_of_succ_lt_succ hj⟩

/-- Settles O35: a position is known from its decomposition. -/
theorem positionDecomposition : Obligations.PositionDecomposition := by
  intro c p hp
  obtain ⟨hpos, hin⟩ := phaseOf_spec hp
  refine ⟨⟨fun h => ?_, fun h => ?_⟩, ⟨fun h => ?_, fun h => ?_⟩, fun line h => ?_, fun line col h => ?_, fun q hq h => ?_⟩
  · rw [← hpos, h, Phase.position]
  · rw [h, phaseOf_zero]
  · rw [← hpos, h, Phase.position]
  · rw [h, phaseOf_last]
  · rw [h] at hpos hin
    exact ⟨hin, hpos.symm⟩
  · rw [h] at hpos hin
    exact ⟨hin.1, hin.2, hpos.symm⟩
  · rw [← hpos, h, (phaseOf_spec hq).1]

/-! The flag `last` (R119, R124). -/

/-- With `STAGED` only the terminator is flagged: the frame is one send (R118, R124). -/
theorem isLast_staged {c : Instance} (hst : c.strategy = .staged) (p : Nat) : isLast c p = true ↔ p = frameLen c - 1 := by
  simp [isLast, hst]

section
variable {c : Instance} (hst : c.strategy = .streaming)
include hst

/-- With `STREAMING` the header is a send of its own (R119). -/
theorem isLast_zero : isLast c 0 = true := by simp [isLast, hst, phaseOf_zero]

/-- With `STREAMING` the send of a line ends with the line's last data byte (R119). -/
theorem isLast_line {i j : Nat} (hi : i < c.height) (hj : j < bpl c + 1) :
    isLast c (1 + (i * (bpl c + 1) + j)) = true ↔ j = bpl c := by
  have hpos := bpl_pos c
  simp only [isLast, hst, phaseOf_line c hi hj]
  cases j with
  | zero => simp [Nat.ne_of_lt hpos]
  | succ col =>
    have hcol : col = bpl c - 1 ↔ col + 1 = bpl c := by omega
    simpa using hcol

end

/-- Settles O47: every position is the header, the terminator or in a line, and each says whether it is flagged. -/
theorem lastFlagsEndTheChunks : Obligations.LastFlagsEndTheChunks := by
  intro c p hp
  have hend : ∀ line, (line + 1) * (1 + bpl c) = 1 + (line * (bpl c + 1) + bpl c) := fun line => by
    rw [linePosition_eq, Nat.succ_mul]
    omega
  refine ⟨fun hst => isLast_staged hst p, fun hst => ⟨fun hlast => ?_, fun h => ?_⟩⟩
  · obtain h0 | hterm | ⟨i, j, hi, hj, rfl⟩ := position_cases hp
    · exact .inl h0
    · exact .inr (.inl hterm)
    · obtain rfl := (isLast_line hst hi hj).mp hlast
      exact .inr (.inr ⟨i, hi, (hend i).symm⟩)
  · obtain rfl | rfl | ⟨line, hline, rfl⟩ := h
    · exact isLast_zero hst
    · exact isLast_last c
    · rw [hend]
      exact (isLast_line hst hline (Nat.lt_succ_self _)).mpr rfl

/-! The frame and what is read back from it (R113, R117). -/

/-- Settles O36: the line records are those of the rule, written out. -/
theorem frameIsHeaderRecordsTerminator : Obligations.FrameIsHeaderRecordsTerminator := fun s => s.frame_eq_lineRecords

/-- Byte `p` of the frame (R113). -/
theorem State.frame_getD (s : State) {p : Nat} (hp : p < frameLen s.cfg) : s.frame.getD p 0x00#8 = s.frameByte p := by
  rw [List.getD_eq_getElem?_getD, State.frame, List.getElem?_map, List.getElem?_range hp]
  rfl

/-- The frame byte of a physical pixel is its byte of the buffer (R113, R117). -/
theorem State.frame_getD_pixel (s : State) {xp yp : Nat} (hx : xp < s.cfg.width) (hy : yp < s.cfg.height) :
    s.frame.getD (1 + yp * (1 + bpl s.cfg) + 1 + xp / 8) 0x00#8 = s.pbByte (byteAddr s.cfg xp yp) := by
  have hcol : xp / 8 + 1 < bpl s.cfg + 1 := by have hw := width_eq s.cfg; omega
  have hplace : 1 + yp * (1 + bpl s.cfg) + 1 + xp / 8 = 1 + (yp * (bpl s.cfg + 1) + (xp / 8 + 1)) := by
    rw [linePosition_eq, Nat.add_comm (xp / 8), Nat.add_assoc]
  rw [hplace, s.frame_getD (linePosition_lt hy hcol), State.frameByte, phaseOf_line s.cfg hy hcol, byteAddr_eq]
  simp

/-- Settles O41: the header holds the polarity bit and the data bytes of the lines are the bytes of the buffer. -/
theorem frameReadsBack : Obligations.FrameReadsBack := by
  intro s
  have hpixel : ∀ xp yp : Nat, xp < s.cfg.width → yp < s.cfg.height →
      (s.frame.getD (1 + yp * (1 + bpl s.cfg) + 1 + xp / 8) 0x00#8).getLsbD (xp % 8) =
        (s.pbByte (byteAddr s.cfg xp yp)).getLsbD (bitPos xp) := fun xp yp hx hy => by
    rw [s.frame_getD_pixel hx hy, bitPos]
  refine ⟨?_, hpixel, fun r x y hin => hpixel _ _ (phys_lt hin).1 (phys_lt hin).2⟩
  have hheader : s.frame.getD 0 0x00#8 = headerByte s.cfg s.pol := by
    rw [s.frame_getD (Nat.zero_lt_of_lt (frameLen_ge s.cfg)), s.frameByte_zero]
  rw [hheader, headerByte_and_polMask]
  cases s.pol <;> simp [polMask_ne_zero]

/-! The start step of `REFRESH` and `CLRREF` (R122, R123). -/

/-- The start step writes no byte of `PB`. -/
@[simp] theorem State.startRefresh_pbByte (s : State) (a : Nat) : s.startRefresh.pbByte a = s.pbByte a := by
  rw [startRefresh_eq]; rfl

/-- The start step changes nothing the frame is made from. -/
@[simp] theorem State.startRefresh_frameByte (s : State) (p : Nat) : s.startRefresh.frameByte p = s.frameByte p := by
  rw [startRefresh_eq]; rfl

/-- With `STAGED` the start step leaves the frame in `EF` (R123). -/
theorem State.startRefresh_efByte {s : State} (hst : s.cfg.strategy = .staged) {p : Nat} (hp : p < frameLen s.cfg) :
    s.startRefresh.efByte p = s.frameByte p := by
  rw [startRefresh_eq]
  exact State.efByte_of_get? (stageFrame_ef_get? hst hp)

/-- With `STREAMING` the start step leaves `EF` alone (R29). -/
theorem State.startRefresh_ef {s : State} (hst : s.cfg.strategy = .streaming) : s.startRefresh.ef = s.ef := by
  rw [startRefresh_eq]
  exact stageFrame_ef_streaming hst

/-- A response more changes nothing the staging pass reads or writes. -/
theorem State.respond_stageFrame_ef (s : State) (val : Bool) : (s.respond val).stageFrame.ef = s.stageFrame.ef := by
  cases hst : s.cfg.strategy with
  | staged => rw [stageFrame_ef_staged hst, stageFrame_ef_staged (s := s.respond val) hst]; rfl
  | streaming => rw [stageFrame_ef_streaming hst, stageFrame_ef_streaming (s := s.respond val) hst]; rfl

/-- `REFRESH` with `READY = 1` (R121, R123). -/
theorem exec_refresh_ready {s : State} (hs : s.Ready) : exec .refresh s = .next s.startRefresh :=
  admitCommand_ready _ _ hs.1 hs.2

/-- `CLRREF` with `READY = 1` (R122, R123). -/
theorem exec_clrref_ready {s : State} (hs : s.Ready) : exec .clrref s = .next s.clearPb.startRefresh :=
  admitCommand_ready _ _ hs.1 hs.2

/-- `CLRREF` clears the buffer and nothing beyond it (R122). -/
theorem State.clearPb_startRefresh_pbByte (s : State) :
    (∀ a, a < nbytes s.cfg → s.clearPb.startRefresh.pbByte a = 0xFF#8) ∧
    (∀ a, ¬ a < nbytes s.cfg → s.clearPb.startRefresh.pbByte a = s.pbByte a) := by
  refine ⟨fun a ha => ?_, fun a ha => ?_⟩
  · rw [State.startRefresh_pbByte, State.pbByte_clearPb, if_pos ha]
  · rw [State.startRefresh_pbByte, State.pbByte_clearPb, if_neg ha]

/-- Settles O43: the start step is taken, field by field. -/
theorem refreshStarts : Obligations.RefreshStarts := by
  intro s hs
  refine ⟨_, exec_refresh_ready hs, ?_, fun hst p hp => State.startRefresh_efByte hst hp, State.startRefresh_ef⟩
  simp [startRefresh_eq]

/-- Settles O44: the start step is taken on the cleared buffer. -/
theorem clrrefClearsAndStarts : Obligations.ClrrefClearsAndStarts := by
  intro s hs
  obtain ⟨hinside, hbeyond⟩ := s.clearPb_startRefresh_pbByte
  refine ⟨_, exec_clrref_ready hs, ?_, hinside, hbeyond, fun hst p hp => ?_, State.startRefresh_ef (s := s.clearPb)⟩
  · simp [startRefresh_eq, State.clearPb, State.setPb]
  · rw [State.startRefresh_efByte (s := s.clearPb) hst hp, State.startRefresh_frameByte]

/-- Settles O45: the response of `CLRBUF` is all that the start step of the refresh after it has more. -/
theorem clrrefIsClrbufThenRefresh : Obligations.ClrrefIsClrbufThenRefresh := by
  intro s hs
  have ht : (s.clearPb.respond false).Ready := hs
  refine ⟨_, _, exec_clrbuf_ready hs, exec_refresh_ready ht, ?_⟩
  rw [exec_clrref_ready hs, startRefresh_eq, startRefresh_eq (s.clearPb.respond false), State.respond_stageFrame_ef]
  rfl

/-! The steps of the sequencer (R124, R125, R196). -/

section
variable {s : State} (hb : s.busy = true) (hrst : s.NoRst)
include hb hrst

/-- While `BUSY = 1` and no `rst` is applied the step is the sequencer's (R182). -/
theorem step_of_busy : step s = sequencerStep s := by
  have hnext : s.nextAct = .sequencer := by
    rw [State.NoRst] at hrst
    unfold State.nextAct
    rcases hq : s.hostIn with _ | ⟨act, rest⟩
    · simp [hb]
    · cases act with
      | rst => simp [hq] at hrst
      | pause => simp [hb]
      | word cw => simp [hb]
  rw [step, hnext]

/-- The transport takes the byte (R124). -/
theorem step_takeByte (hp : s.pos < frameLen s.cfg) (hr : s.txReady = true) : step s = .next s.passMoment.takeByte := by
  rw [step_of_busy hb hrst, sequencerStep, if_pos hp, if_pos hr]

/-- The transport does not take the byte (R196). -/
theorem step_wait (hp : s.pos < frameLen s.cfg) (hr : s.txReady = false) : step s = .next s.passMoment := by
  rw [step_of_busy hb hrst, sequencerStep, if_pos hp, hr, if_neg Bool.false_ne_true]

/-- The finish step (R125). -/
theorem step_finish (hp : s.pos = frameLen s.cfg) : step s = .next s.finishRefresh := by
  rw [step_of_busy hb hrst, sequencerStep, if_neg (Nat.not_lt_of_le (Nat.le_of_eq hp.symm)), if_pos hp]

end

/-- A stalled transport takes no byte now (R196). -/
theorem State.txReady_of_stalled {s : State} (h : s.transportStalled) : s.txReady = false := by
  obtain ⟨hmoments, hrest⟩ := h
  unfold State.txReady
  cases hq : s.txIn with
  | nil => exact hrest
  | cons m _ => exact hmoments m (by simp [hq])

/-- A stalled transport stays stalled (R196). -/
theorem State.transportStalled.passMoment {s : State} (h : s.transportStalled) : s.passMoment.transportStalled :=
  ⟨fun m hm => h.1 m (List.mem_of_mem_tail hm), h.2⟩

/-- Before a stalled transport any number of steps only wait (R196). -/
theorem run_of_stalled {s : State} (n : Nat) (hb : s.busy = true) (hrst : s.NoRst) (hp : s.pos < frameLen s.cfg)
    (h : s.transportStalled) : core.run n s = .next (s.setTxIn (s.txIn.drop n)) := by
  induction n generalizing s with
  | zero => rfl
  | succ n ih =>
    rw [run_succ n (step_wait hb hrst hp (State.txReady_of_stalled h)), ih (s := s.passMoment) hb hrst hp h.passMoment]
    simp [State.passMoment, State.setTxIn]

/-- Settles O49: a waiting step passes one moment, and a stalled transport offers none at which the byte is taken. -/
theorem stalledTransportHangsTheRefresh : Obligations.StalledTransportHangsTheRefresh :=
  ⟨fun _ hb hrst hp hr => step_wait hb hrst hp hr,
   fun s n hb hrst hp h => ⟨run_of_stalled n hb hrst hp h, rfl, by simp [State.runOver, hb]⟩⟩

/-- Settles O46: the byte taken, once its moment of offer has passed. -/
theorem byteStepHandsOverOneByte : Obligations.ByteStepHandsOverOneByte := by
  intro s hb hrst hp hr
  refine ⟨by simp [State.txValid, hb, hp], ?_⟩
  rw [step_takeByte hb hrst hp hr, takeByte_eq]
  rfl

/-- Settles O50: the finish step is taken, field by field. -/
theorem finishStep : Obligations.FinishStep := fun s hb hrst hp => by
  rw [step_finish hb hrst hp, finishRefresh_eq]

/-- The byte on offer is the frame byte when `EF` holds it wherever there is an `EF` (R124). -/
theorem State.offeredByte_eq_frameByte {s : State} (h : s.cfg.strategy = .staged → s.efByte s.pos = s.frameByte s.pos) :
    s.offeredByte = s.frameByte s.pos := by
  unfold State.offeredByte
  cases hst : s.cfg.strategy with
  | staged => exact h hst
  | streaming => rfl

/-- Settles O48: during a staged refresh `EF` holds the frame. -/
theorem offeredByteIsFrameByte : Obligations.OfferedByteIsFrameByte := by
  intro s hs hvalid
  obtain ⟨-, -, -, -, -, -, -, -, hscratch, -⟩ := hs
  obtain ⟨hb, hp⟩ : s.busy = true ∧ s.pos < frameLen s.cfg := by simpa [State.txValid] using hvalid
  exact State.offeredByte_eq_frameByte fun hst => hscratch hb hst _ hp

/-! What the byte steps have sent at a position (R124), and that it is the chunks of R118 and R119 at the end. -/

/-- The bytes of the open send when `POS = p`: those taken since the last flagged byte (R124). -/
def State.openBefore (s : State) : Nat → List Byte
  | 0 => []
  | p + 1 => if isLast s.cfg p then [] else s.openBefore p ++ [s.frameByte p]

/-- The sends emitted when `POS = p`: one for each flagged byte before it (R124). -/
def State.sendsBefore (s : State) : Nat → List (List Byte)
  | 0 => []
  | p + 1 => if isLast s.cfg p then s.sendsBefore p ++ [s.openBefore p ++ [s.frameByte p]] else s.sendsBefore p

/-- Over positions that are not flagged the open send grows and nothing is emitted. -/
theorem State.before_unflagged (s : State) {p n : Nat} (h : ∀ j < n, isLast s.cfg (p + j) = false) :
    s.openBefore (p + n) = s.openBefore p ++ (List.range n).map (fun j => s.frameByte (p + j)) ∧
    s.sendsBefore (p + n) = s.sendsBefore p := by
  induction n with
  | zero => simp
  | succ n ih =>
    obtain ⟨hopen, hsends⟩ := ih fun j hj => h j (Nat.lt_succ_of_lt hj)
    rw [← Nat.add_assoc]
    simp [State.openBefore, State.sendsBefore, h n (Nat.lt_succ_self n), hopen, hsends, List.range_succ]

/-- A run of positions of which only the last is flagged, begun with no send open, is one send. -/
theorem State.before_run (s : State) {p n : Nat} (hopen : s.openBefore p = [])
    (h : ∀ j < n, isLast s.cfg (p + j) = false) (hlast : isLast s.cfg (p + n) = true) :
    s.openBefore (p + (n + 1)) = [] ∧
    s.sendsBefore (p + (n + 1)) = s.sendsBefore p ++ [(List.range (n + 1)).map (fun j => s.frameByte (p + j))] := by
  obtain ⟨hrun, hsends⟩ := s.before_unflagged h
  rw [← Nat.add_assoc]
  simp [State.openBefore, State.sendsBefore, hlast, hrun, hopen, hsends, List.range_succ]

/-- With `STREAMING` the header and each line before line `i` are sent when line `i` begins (R119). -/
theorem State.before_line (s : State) (hst : s.cfg.strategy = .streaming) {i : Nat} (hi : i ≤ s.cfg.height) :
    s.openBefore (1 + i * (bpl s.cfg + 1)) = [] ∧
    s.sendsBefore (1 + i * (bpl s.cfg + 1)) = [[headerByte s.cfg s.pol]] ++ (List.range i).map s.lineRecord := by
  induction i with
  | zero => simp [State.openBefore, State.sendsBefore, isLast_zero hst]
  | succ i ih =>
    obtain ⟨hopen, hsends⟩ := ih (Nat.le_of_lt hi)
    have hflag : ∀ j < bpl s.cfg + 1, (isLast s.cfg (1 + i * (bpl s.cfg + 1) + j) = true ↔ j = bpl s.cfg) := fun j hj => by
      rw [Nat.add_assoc, isLast_line hst hi hj]
    obtain ⟨hopen', hsends'⟩ := s.before_run (n := bpl s.cfg) hopen
      (fun j hj => Bool.eq_false_iff.mpr fun h => Nat.ne_of_lt hj ((hflag j (Nat.lt_succ_of_lt hj)).mp h))
      ((hflag _ (Nat.lt_succ_self _)).mpr rfl)
    have hline : 1 + (i + 1) * (bpl s.cfg + 1) = 1 + i * (bpl s.cfg + 1) + (bpl s.cfg + 1) := by rw [Nat.succ_mul, Nat.add_assoc]
    have hrecord := s.map_frameByte_line hi
    simp only [← Nat.add_assoc] at hrecord
    rw [hline]
    exact ⟨hopen', by rw [hsends', hsends, hrecord, List.range_succ, List.map_append, List.map_singleton, List.append_assoc]⟩

/-- At the end of the frame no send is open and the sends are the chunks of the refresh (R118, R119). -/
theorem State.before_frameLen (s : State) :
    s.openBefore (frameLen s.cfg) = [] ∧ s.sendsBefore (frameLen s.cfg) = s.chunks := by
  cases hst : s.cfg.strategy with
  | staged =>
    have hlen : frameLen s.cfg - 1 + 1 = frameLen s.cfg := Nat.sub_add_cancel (Nat.le_of_lt (frameLen_ge s.cfg))
    have hend := s.before_run (p := 0) (n := frameLen s.cfg - 1) rfl
      (fun j hj => Bool.eq_false_iff.mpr fun h => Nat.ne_of_lt hj (by simpa using (isLast_staged hst _).mp h))
      (by rw [Nat.zero_add, isLast_last])
    simp only [Nat.zero_add, hlen] at hend
    rw [s.chunks_staged hst]
    exact hend
  | streaming =>
    have hlast : frameLen s.cfg - 1 = 1 + s.cfg.height * (bpl s.cfg + 1) := by simp [frameLen, Nat.add_comm 1 (bpl s.cfg)]
    have hlen : frameLen s.cfg = 1 + s.cfg.height * (bpl s.cfg + 1) + (0 + 1) := by have h := frameLen_ge s.cfg; omega
    obtain ⟨hopen, hsends⟩ := s.before_line hst (Nat.le_refl _)
    obtain ⟨hopen', hsends'⟩ := s.before_run (n := 0) hopen nofun (by rw [Nat.add_zero, ← hlast, isLast_last])
    rw [hlen, hsends', hsends, s.chunks_streaming hst]
    exact ⟨hopen', by simp [s.frameByte_last]⟩

/-! The run of a refresh (R123 to R126). -/

/-- The state inside a refresh that `s` started, when `POS = p` and the moments of offer `left` are still to come. -/
def State.refreshingAt (s : State) (p : Nat) (left : List TxMoment) : State :=
  { s with
    busy := true, scs := true, txn := true, pos := p, chunk := s.openBefore p, ef := s.stageFrame.ef, txIn := left
    events := s.events ++ [.txnBegin s.cfg.busCfg, .csHigh] ++ (s.sendsBefore p).map TxEvent.send }

/-- The start step begins the refresh at position 0 (R123). -/
theorem startRefresh_eq_refreshingAt (s : State) : s.startRefresh = s.refreshingAt 0 s.txIn := by
  simp [startRefresh_eq, State.refreshingAt, State.openBefore, State.sendsBefore]

/-- Inside the refresh the byte on offer is the frame byte of the state that started it (R124). -/
theorem State.refreshingAt_offeredByte (s : State) {p : Nat} (hp : p < frameLen s.cfg) (left : List TxMoment) :
    (s.refreshingAt p left).offeredByte = s.frameByte p :=
  State.offeredByte_eq_frameByte (s := s.refreshingAt p left) fun hst =>
    State.efByte_of_get? (stageFrame_ef_get? (s := s) hst hp)

/-- Taking the byte on offer advances the refresh by one position (R124). -/
theorem State.refreshingAt_takeByte (s : State) {p : Nat} (hp : p < frameLen s.cfg) (left : List TxMoment) :
    (s.refreshingAt p left).takeByte = s.refreshingAt (p + 1) left := by
  rw [takeByte_eq, s.refreshingAt_offeredByte hp]
  cases hl : isLast s.cfg p <;> simp [State.refreshingAt, State.openBefore, State.sendsBefore, hl]

/-- The finish step leaves the state of the one-transition form, whatever moments of offer are left (R121, R125). -/
theorem State.refreshingAt_finishRefresh (s : State) (left : List TxMoment) :
    (s.refreshingAt (frameLen s.cfg) left).finishRefresh = s.refreshed.setTxIn left := by
  obtain ⟨hopen, hsends⟩ := s.before_frameLen
  rw [finishRefresh_eq, State.refreshed, stageFrame_eq]
  simp [State.refreshingAt, State.setTxIn, State.refreshEvents, hopen, hsends]

section
variable {s : State} (hrst : s.NoRst)
include hrst

/-- A step inside the refresh at which the byte is taken. -/
theorem step_refreshingAt_take {p : Nat} {left : List TxMoment} (hp : p < frameLen s.cfg)
    (hr : (s.refreshingAt p left).txReady = true) :
    step (s.refreshingAt p left) = .next (s.refreshingAt (p + 1) left.tail) := by
  rw [step_takeByte (s := s.refreshingAt p left) rfl hrst hp hr, ← s.refreshingAt_takeByte hp]
  rfl

/-- The finish step of the refresh. -/
theorem run_refreshingAt_finish (left : List TxMoment) :
    core.run 1 (s.refreshingAt (frameLen s.cfg) left) = .next (s.refreshed.setTxIn left) := by
  rw [run_succ 0 (step_finish (s := s.refreshingAt (frameLen s.cfg) left) rfl hrst rfl), run_zero,
    s.refreshingAt_finishRefresh]

variable (hrest : s.txRest = true)
include hrest

/-- A transport that takes every byte at once ends the refresh after the `k` bytes that remain and the finish step (R126). -/
theorem run_refreshingAt_nil {p k : Nat} (hk : p + k = frameLen s.cfg) :
    core.run (k + 1) (s.refreshingAt p []) = .next (s.refreshed.setTxIn []) := by
  induction k generalizing p with
  | zero =>
    obtain rfl : p = frameLen s.cfg := hk
    exact run_refreshingAt_finish hrst []
  | succ k ih =>
    rw [run_succ _ (step_refreshingAt_take hrst (left := []) (by omega) hrest)]
    exact ih (by omega)

/-- Whatever moments of offer come first, the refresh ends, with a suffix of them left (R196, R202). -/
theorem run_refreshingAt {p : Nat} (hp : p ≤ frameLen s.cfg) (moments : List TxMoment) :
    ∃ (n : Nat) (left : List TxMoment), left <:+ moments ∧
      core.run n (s.refreshingAt p moments) = .next (s.refreshed.setTxIn left) := by
  induction moments generalizing p with
  | nil => exact ⟨_, [], List.suffix_rfl, run_refreshingAt_nil hrst hrest (Nat.add_sub_cancel' hp)⟩
  | cons m moments ih =>
    obtain rfl | hlt := Nat.eq_or_lt_of_le hp
    · exact ⟨1, _, List.suffix_rfl, run_refreshingAt_finish hrst _⟩
    · cases hm : m.ready with
      | true =>
        obtain ⟨n, left, hsuffix, hrun⟩ := ih (p := p + 1) hlt
        exact ⟨n + 1, left, hsuffix.trans (List.suffix_cons _ _),
          (run_succ n (step_refreshingAt_take hrst (left := m :: moments) hlt hm)).trans hrun⟩
      | false =>
        obtain ⟨n, left, hsuffix, hrun⟩ := ih hp
        exact ⟨n + 1, left, hsuffix.trans (List.suffix_cons _ _),
          (run_succ n (step_wait (s := s.refreshingAt p (m :: moments)) rfl hrst hlt hm)).trans hrun⟩

/-- With no delay a refresh takes `FRAME_LEN + 1` steps after its start (R126). -/
theorem run_startRefresh (hin : s.txIn = []) : core.run (frameLen s.cfg + 1) s.startRefresh = .next (s.refreshed.setTxIn []) := by
  rw [startRefresh_eq_refreshingAt, hin]
  exact run_refreshingAt_nil hrst hrest (Nat.zero_add _)

/-- With finite delays a refresh ends some steps after its start (R202). -/
theorem run_startRefresh_fair : ∃ (n : Nat) (left : List TxMoment), left <:+ s.txIn ∧
    core.run n s.startRefresh = .next (s.refreshed.setTxIn left) := by
  rw [startRefresh_eq_refreshingAt]
  exact run_refreshingAt hrst hrest (Nat.zero_le _) s.txIn

end

/-- The state a refresh of an idle block leaves, field by field (R121). -/
theorem State.refreshed_setTxIn_eq {s : State} (hb : s.busy = false) (left : List TxMoment) :
    s.refreshed.setTxIn left =
      { s with
        ef := s.startRefresh.ef
        chunk := []
        pol := !s.pol
        scs := false, txn := false, pos := 0
        txIn := left
        events := s.events ++ s.refreshEvents
        rsps := s.rsps ++ [{ ok := true, val := false, why := none }] } := by
  rw [State.refreshed, stageFrame_eq, startRefresh_eq, ← hb]
  rfl

/-- The state a refresh of the cleared buffer leaves, field by field (R122). -/
theorem State.clearPb_refreshed_setTxIn_eq {s : State} (hb : s.busy = false) (left : List TxMoment) :
    s.clearPb.refreshed.setTxIn left =
      { s with
        pb := s.clearPb.startRefresh.pb
        ef := s.clearPb.startRefresh.ef
        chunk := []
        pol := !s.pol
        scs := false, txn := false, pos := 0
        txIn := left
        events := s.events ++ State.refreshEvents { s with pb := s.clearPb.startRefresh.pb }
        rsps := s.rsps ++ [{ ok := true, val := false, why := none }] } := by
  rw [State.refreshed_setTxIn_eq (s := s.clearPb) hb, State.startRefresh_pb]
  rfl

/-- Settles O51: byte by byte the chunks of the one-transition form are emitted, and the finish step leaves its state. -/
theorem refreshRunsToItsEnd : Obligations.RefreshRunsToItsEnd := by
  intro s hs hrst hin hrest
  obtain ⟨hinside, hbeyond⟩ := s.clearPb_startRefresh_pbByte
  refine ⟨⟨_, exec_refresh_ready hs, ?_⟩, ⟨_, exec_clrref_ready hs, hinside, hbeyond, ?_⟩⟩
  · rw [run_startRefresh hrst hrest hin, State.refreshed_setTxIn_eq hs.1, ← hin]
  · rw [show frameLen s.cfg = frameLen s.clearPb.cfg from rfl, run_startRefresh (s := s.clearPb) hrst hrest hin,
      State.clearPb_refreshed_setTxIn_eq hs.1, ← hin]

/-- Settles O52: a moment of waiting passes, a byte taken brings the end nearer, and the finish step is the same. -/
theorem refreshEndsUnderFairness : Obligations.RefreshEndsUnderFairness := by
  intro s hs hrst hrest
  obtain ⟨hinside, hbeyond⟩ := s.clearPb_startRefresh_pbByte
  obtain ⟨n, left, hsuffix, hrun⟩ := run_startRefresh_fair hrst hrest
  obtain ⟨n', left', hsuffix', hrun'⟩ := run_startRefresh_fair (s := s.clearPb) hrst hrest
  rw [State.refreshed_setTxIn_eq hs.1] at hrun
  rw [State.clearPb_refreshed_setTxIn_eq hs.1] at hrun'
  exact ⟨⟨_, n, left, exec_refresh_ready hs, hsuffix, hrun⟩,
    ⟨_, n', left', exec_clrref_ready hs, hsuffix', hinside, hbeyond, hrun'⟩⟩

end Sys2Proof.Machine
end

section
/-! PROOFS. The polarity family (`42_polarity_toggler.md`): what may write `POL`. -/

namespace Sys2Proof.Machine

/-! `POL` after each update of a step (R138, R139). -/

@[simp] theorem State.startRefresh_pol (s : State) : s.startRefresh.pol = s.pol := by rw [startRefresh_eq]

@[simp] theorem State.clearPb_pol (s : State) : s.clearPb.pol = s.pol := rfl

@[simp] theorem State.passMoment_pol (s : State) : s.passMoment.pol = s.pol := rfl

@[simp] theorem State.takeByte_pol (s : State) : s.takeByte.pol = s.pol := by rw [takeByte_eq]

@[simp] theorem State.finishRefresh_pol (s : State) : s.finishRefresh.pol = !s.pol := by rw [finishRefresh_eq]

/-- No command writes `POL`, carried out or rejected; a refreshing one only starts its refresh (R138). -/
theorem exec_keeps_pol {i : Instr} {s t : State} (h : exec i s = .next t) : t.pol = s.pol := by
  cases i with
  | init => obtain ⟨-, ⟨-, rfl⟩ | ⟨-, -, rfl⟩ | ⟨-, -, rfl⟩⟩ := execInit_next_cases h <;> simp
  | setrot r => obtain ⟨-, ⟨-, rfl⟩ | ⟨-, rfl⟩⟩ := admitCommand_next_next_cases h <;> simp
  | setpix x y colour => obtain ⟨-, ⟨-, -, rfl⟩ | ⟨-, -, rfl⟩ | ⟨-, rfl⟩⟩ := execSetpix_next_cases h <;> simp
  | getpix x y => obtain ⟨-, ⟨-, val, rfl⟩ | ⟨-, rfl⟩⟩ := execGetpix_next_cases h <;> simp
  | clrbuf => obtain ⟨-, ⟨-, rfl⟩ | ⟨-, rfl⟩⟩ := admitCommand_next_next_cases h <;> simp
  | clrref => obtain ⟨-, ⟨-, rfl⟩ | ⟨-, rfl⟩⟩ := admitCommand_next_next_cases h <;> simp
  | refresh => obtain ⟨-, ⟨-, rfl⟩ | ⟨-, rfl⟩⟩ := admitCommand_next_next_cases h <;> simp

/-- Of the sequencer's steps the finish step toggles `POL`, and the others keep it (R125, R140). -/
theorem sequencerStep_pol {s t : State} (h : sequencerStep s = .next t) :
    t.pol = if s.pos = frameLen s.cfg then !s.pol else s.pol := by
  obtain ⟨hp, -, rfl⟩ | ⟨hp, -, rfl⟩ | ⟨hp, rfl⟩ := sequencerStep_next_cases h
  · simp [Nat.ne_of_lt hp]
  · simp [Nat.ne_of_lt hp]
  · simp [hp]

/-- `POL` after a step: toggled by the finish step of a refresh, else kept (R138, R140). -/
theorem step_pol {s t : State} (h : step s = .next t) :
    t.pol = if s.busy = true ∧ s.pos = frameLen s.cfg then !s.pol else s.pol := by
  obtain ⟨hb, -, hseq⟩ | ⟨hb, -, rfl⟩ | ⟨hb, rest, -, rfl⟩ | ⟨hb, cw, rest, -, ⟨i, -, hexec⟩ | ⟨-, rfl⟩⟩ := step_next_cases h
  · simpa [hb] using sequencerStep_pol hseq
  · simp [hb]
  · simp [hb]
  · simpa [hb] using exec_keeps_pol hexec
  · simp [hb]

/-- Settles O56: a toggled `POL` differs from what it was, and a kept one does not. -/
theorem polarityChangesOnlyAtFinish : Obligations.PolarityChangesOnlyAtFinish := by
  intro s t h
  have hpol := step_pol h
  by_cases hfinish : s.busy = true ∧ s.pos = frameLen s.cfg
  · rw [if_pos hfinish] at hpol
    simp [hpol, hfinish]
  · rw [if_neg hfinish] at hpol
    exact ⟨iff_of_false (not_not_intro hpol) hfinish, fun hf => absurd hf hfinish⟩

end Sys2Proof.Machine
end

section
/-! PROOFS. The lifecycle family (`43_config_lifecycle.md`): `INIT` and `SETROT`. -/

namespace Sys2Proof.Machine

/-! The admission checks of `INIT`, case by case (R166 (2)). -/

/-- A second `INIT` is rejected `AlreadyInit`, whether the memories are there or not. -/
theorem admitInit_ready {s : State} (o : Host.Outcome State Fault Refusal) (hs : s.Ready) :
    admitInit s o = .next (s.reject .alreadyInit) := by
  obtain ⟨hb, hr⟩ := hs
  simp [admitInit, hb, hr]

/-- With the memories there, an uninitialised instance carries `INIT` out. -/
theorem admitInit_allocOk {s : State} (o : Host.Outcome State Fault Refusal) (hs : s.Uninitialised)
    (ha : s.cfg.allocOk = true) : admitInit s o = o := by
  obtain ⟨hb, hr⟩ := hs
  simp [admitInit, hb, hr, ha]

/-- Without the memories, an uninitialised instance rejects `INIT` with `AllocFail`. -/
theorem admitInit_allocFail {s : State} (o : Host.Outcome State Fault Refusal) (hs : s.Uninitialised)
    (ha : s.cfg.allocOk = false) : admitInit s o = .next (s.reject .allocFail) := by
  obtain ⟨hb, hr⟩ := hs
  simp [admitInit, hb, hr, ha]

/-- Settles O16: `INIT` is admitted, and its effect is the writes of R146 and the response. -/
theorem initBringsIntoService : Obligations.InitBringsIntoService := fun _ hs ha => admitInit_allocOk _ hs ha

/-- Settles O17: the two checks of R166 (2), either of which ends in a rejection. -/
theorem initRejections : Obligations.InitRejections :=
  ⟨fun _ hs => admitInit_ready _ hs, fun _ hs ha => admitInit_allocFail _ hs ha⟩

/-- Settles O18: the effect of `SETROT` is the write of R147 and the response. -/
theorem setrotWritesRotationOnly : Obligations.SetrotWritesRotationOnly := fun _ r hs => exec_setrot_ready hs r

end Sys2Proof.Machine
end

section
/-! PROOFS. The family of rejections and of the byte channel (`60_exceptions.md`): what a rejection leaves, and that nothing
reads a received byte. -/

namespace Sys2Proof.Machine

/-! The check of `READY` (R166 (3), R171). -/

/-- Every command but `INIT` meets the check of `READY` before anything else of its meaning (R166 (3)). -/
theorem exec_eq_admitCommand {i : Instr} (hi : i ≠ .init) (s : State) :
    ∃ carriedOut, exec i s = admitCommand s carriedOut := by
  cases i with
  | init => exact absurd rfl hi
  | setrot r => exact ⟨_, rfl⟩
  | setpix x y colour => exact ⟨_, rfl⟩
  | getpix x y => exact ⟨_, rfl⟩
  | clrbuf => exact ⟨_, rfl⟩
  | clrref => exact ⟨_, rfl⟩
  | refresh => exact ⟨_, rfl⟩

/-- Settles O20: the check fails, so what would have been carried out, operands and all, is not reached. -/
theorem notReadyRejectsAllButInit : Obligations.NotReadyRejectsAllButInit := by
  rintro s i ⟨hb, hr⟩ hi
  obtain ⟨carriedOut, hexec⟩ := exec_eq_admitCommand hi s
  exact hexec.trans (admitCommand_notReady s carriedOut hb hr)

/-! What a step that answers `ok = 0` has done (R161, R167). -/

/-- The responses of `t` are those of `s`, or one more with `ok = 1`: no command was rejected between them (R67). -/
def State.AnsweredOk (s t : State) : Prop :=
  t.rsps = s.rsps ∨ ∃ val, t.rsps = s.rsps ++ [{ ok := true, val := val, why := none }]

/-- A response with `ok = 0` is none that `AnsweredOk` allows. -/
theorem State.AnsweredOk.ok_of_append {s t : State} {r : Response} (h : s.AnsweredOk t) (hr : t.rsps = s.rsps ++ [r]) :
    r.ok = true := by
  obtain hsame | ⟨val, hval⟩ := h
  · simp [hsame] at hr
  · obtain rfl : _ = r := by simpa [hval] using hr
    rfl

/-- A command is rejected and does nothing else, or it is not rejected (R161, R167). -/
theorem exec_reject_or_answeredOk {i : Instr} {s t : State} (h : exec i s = .next t) :
    (∃ why, t = s.reject why) ∨ s.AnsweredOk t := by
  cases i with
  | init =>
    obtain ⟨-, ⟨-, rfl⟩ | ⟨-, -, rfl⟩ | ⟨-, -, rfl⟩⟩ := execInit_next_cases h
    · exact .inl ⟨_, rfl⟩
    · exact .inr (.inr ⟨_, rfl⟩)
    · exact .inl ⟨_, rfl⟩
  | setrot r =>
    obtain ⟨-, ⟨-, rfl⟩ | ⟨-, rfl⟩⟩ := admitCommand_next_next_cases h
    · exact .inr (.inr ⟨_, rfl⟩)
    · exact .inl ⟨_, rfl⟩
  | setpix x y colour =>
    obtain ⟨-, ⟨-, -, rfl⟩ | ⟨-, -, rfl⟩ | ⟨-, rfl⟩⟩ := execSetpix_next_cases h
    · exact .inr (.inr ⟨_, rfl⟩)
    · exact .inr (.inr ⟨_, rfl⟩)
    · exact .inl ⟨_, rfl⟩
  | getpix x y =>
    obtain ⟨-, ⟨-, val, rfl⟩ | ⟨-, rfl⟩⟩ := execGetpix_next_cases h
    · exact .inr (.inr ⟨_, rfl⟩)
    · exact .inl ⟨_, rfl⟩
  | clrbuf =>
    obtain ⟨-, ⟨-, rfl⟩ | ⟨-, rfl⟩⟩ := admitCommand_next_next_cases h
    · exact .inr (.inr ⟨_, rfl⟩)
    · exact .inl ⟨_, rfl⟩
  | clrref =>
    obtain ⟨-, ⟨-, rfl⟩ | ⟨-, rfl⟩⟩ := admitCommand_next_next_cases h
    · exact .inr (.inl (by rw [startRefresh_eq]; rfl))
    · exact .inl ⟨_, rfl⟩
  | refresh =>
    obtain ⟨-, ⟨-, rfl⟩ | ⟨-, rfl⟩⟩ := admitCommand_next_next_cases h
    · exact .inr (.inl (by rw [startRefresh_eq]))
    · exact .inl ⟨_, rfl⟩

/-- The sequencer rejects nothing (R168). -/
theorem sequencerStep_answeredOk {s t : State} (h : sequencerStep s = .next t) : s.AnsweredOk t := by
  have hrsps := sequencerStep_rsps h
  by_cases hp : s.pos = frameLen s.cfg
  · exact .inr ⟨false, by simpa [hp] using hrsps⟩
  · exact .inl (by simpa [hp] using hrsps)

/-- A step takes a word off the port and rejects it, doing nothing else, or it rejects nothing (R161, R167). -/
theorem step_reject_or_answeredOk {s t : State} (h : step s = .next t) :
    (∃ why, t = (s.setHostIn s.hostIn.tail).reject why) ∨ s.AnsweredOk t := by
  obtain ⟨-, -, hseq⟩ | ⟨-, -, rfl⟩ | ⟨-, rest, -, rfl⟩ | ⟨-, cw, rest, hin, ⟨i, -, hexec⟩ | ⟨-, rfl⟩⟩ := step_next_cases h
  · exact .inr (sequencerStep_answeredOk hseq)
  · exact .inr (.inl rfl)
  · exact .inr (.inl rfl)
  · obtain ⟨why, rfl⟩ | hans := exec_reject_or_answeredOk hexec
    · exact .inl ⟨why, by rw [hin, List.tail_cons]⟩
    · exact .inr hans
  · exact .inl ⟨.illegal, by simp [hin]⟩

/-- Settles O21: a step that does not reject answers `ok = 1` if it answers, so this one rejects. -/
theorem rejectionChangesNothing : Obligations.RejectionChangesNothing := by
  intro s t r h hr hok
  obtain ⟨why, rfl⟩ | hans := step_reject_or_answeredOk h
  · obtain rfl : _ = r := by simpa using hr
    exact ⟨rfl, rfl, Option.some_ne_none why⟩
  · simp [hans.ok_of_append hr] at hok

/-! The transport's moments, of which only the readiness is read (R180, R181). -/

/-- `tx_ready` is the readiness at the first moment left, or the level that follows them. -/
theorem State.txReady_eq_headD (s : State) : s.txReady = (s.txIn.map TxMoment.ready).headD s.txRest := by
  unfold State.txReady
  cases s.txIn <;> rfl

@[simp] theorem State.startRefresh_txIn (s : State) : s.startRefresh.txIn = s.txIn := by rw [startRefresh_eq]

@[simp] theorem State.takeByte_txIn (s : State) : s.takeByte.txIn = s.txIn := by rw [takeByte_eq]

@[simp] theorem State.finishRefresh_txIn (s : State) : s.finishRefresh.txIn = s.txIn := by rw [finishRefresh_eq]

section
variable (s : State) (moments : List TxMoment)

@[simp] theorem State.startRefresh_setTxIn : (s.setTxIn moments).startRefresh = s.startRefresh.setTxIn moments := by
  have hef : (s.setTxIn moments).stageFrame.ef = s.stageFrame.ef := by
    cases hst : s.cfg.strategy with
    | staged =>
      rw [stageFrame_ef_staged hst, stageFrame_ef_staged (s := s.setTxIn moments) hst]
      rfl
    | streaming =>
      rw [stageFrame_ef_streaming hst, stageFrame_ef_streaming (s := s.setTxIn moments) hst]
      rfl
  rw [startRefresh_eq, startRefresh_eq, hef]
  rfl

@[simp] theorem State.takeByte_setTxIn : (s.setTxIn moments).takeByte = s.takeByte.setTxIn moments := by
  rw [takeByte_eq, takeByte_eq]
  rfl

end

/-- A command neither reads nor writes the moments of the transport, and with `BUSY = 0` it has a next state (R180). -/
theorem exec_setTxIn (i : Instr) {s : State} (hb : s.busy = false) (moments : List TxMoment) :
    ∃ u, exec i s = .next u ∧ exec i (s.setTxIn moments) = .next (u.setTxIn moments) ∧ u.txIn = s.txIn := by
  by_cases hi : i = .init
  · subst hi
    cases hr : s.ready with
    | true => exact ⟨_, admitInit_ready _ ⟨hb, hr⟩, admitInit_ready (s := s.setTxIn moments) _ ⟨hb, hr⟩, rfl⟩
    | false =>
      cases ha : s.cfg.allocOk with
      | true => exact ⟨_, admitInit_allocOk _ ⟨hb, hr⟩ ha, admitInit_allocOk (s := s.setTxIn moments) _ ⟨hb, hr⟩ ha, rfl⟩
      | false => exact ⟨_, admitInit_allocFail _ ⟨hb, hr⟩ ha, admitInit_allocFail (s := s.setTxIn moments) _ ⟨hb, hr⟩ ha, rfl⟩
  cases hr : s.ready with
  | false =>
    exact ⟨_, notReadyRejectsAllButInit s i ⟨hb, hr⟩ hi, notReadyRejectsAllButInit (s.setTxIn moments) i ⟨hb, hr⟩ hi, rfl⟩
  | true =>
    have hs : s.Ready := ⟨hb, hr⟩
    have hs' : (s.setTxIn moments).Ready := hs
    cases i with
    | init => exact absurd rfl hi
    | setrot r => exact ⟨_, exec_setrot_ready hs r, exec_setrot_ready hs' r, rfl⟩
    | setpix x y colour =>
      by_cases hin : InRange s.cfg s.rot x y
      · exact ⟨_, exec_setpix_inRange colour hs hin, exec_setpix_inRange colour hs' hin, rfl⟩
      · exact ⟨_, exec_setpix_outOfRange hs colour hin, exec_setpix_outOfRange hs' colour hin, rfl⟩
    | getpix x y =>
      by_cases hin : InRange s.cfg s.rot x y
      · exact ⟨_, exec_getpix_inRange hs hin, exec_getpix_inRange hs' hin, rfl⟩
      · exact ⟨_, exec_getpix_outOfRange hs hin, exec_getpix_outOfRange hs' hin, rfl⟩
    | clrbuf => exact ⟨_, exec_clrbuf_ready hs, exec_clrbuf_ready hs', rfl⟩
    | clrref =>
      refine ⟨_, exec_clrref_ready hs, (exec_clrref_ready hs').trans ?_, s.clearPb.startRefresh_txIn⟩
      exact congrArg _ (s.clearPb.startRefresh_setTxIn moments)
    | refresh =>
      refine ⟨_, exec_refresh_ready hs, (exec_refresh_ready hs').trans ?_, s.startRefresh_txIn⟩
      exact congrArg _ (s.startRefresh_setTxIn moments)

/-- The sequencer's step at a moment at which the byte is taken (R124). -/
theorem sequencerStep_takeByte {s : State} (hp : s.pos < frameLen s.cfg) (hr : s.txReady = true) :
    sequencerStep s = .next s.passMoment.takeByte := by
  rw [sequencerStep, if_pos hp, if_pos hr]

/-- The sequencer's step at a moment at which it is not (R196). -/
theorem sequencerStep_wait {s : State} (hp : s.pos < frameLen s.cfg) (hr : s.txReady = false) :
    sequencerStep s = .next s.passMoment := by
  rw [sequencerStep, if_pos hp, hr, if_neg Bool.false_ne_true]

/-- The sequencer's step after the last byte (R125). -/
theorem sequencerStep_finish {s : State} (hp : s.pos = frameLen s.cfg) : sequencerStep s = .next s.finishRefresh := by
  rw [sequencerStep, if_neg (Nat.not_lt_of_le (Nat.le_of_eq hp.symm)), if_pos hp]

section
variable {s t : State} {moments : List TxMoment} (hsame : moments.map TxMoment.ready = s.txIn.map TxMoment.ready)
include hsame

/-- Moments that differ in received bytes only offer the same `tx_ready`. -/
theorem State.txReady_setTxIn : (s.setTxIn moments).txReady = s.txReady := by
  rw [State.txReady_eq_headD, State.txReady_eq_headD]
  exact congrArg (·.headD s.txRest) hsame

/-- A step of the sequencer uses the readiness of the moment that passes, and not its byte (R180, R196). -/
theorem sequencerStep_setTxIn (h : sequencerStep s = .next t) :
    ∃ moments', moments'.map TxMoment.ready = t.txIn.map TxMoment.ready ∧
      sequencerStep (s.setTxIn moments) = .next (t.setTxIn moments') := by
  have htail : moments.tail.map TxMoment.ready = s.passMoment.txIn.map TxMoment.ready := by
    rw [List.map_tail, hsame, State.passMoment, State.setTxIn_txIn, List.map_tail]
  obtain ⟨hp, hr, rfl⟩ | ⟨hp, hr, rfl⟩ | ⟨hp, rfl⟩ := sequencerStep_next_cases h
  · refine ⟨moments.tail, by rw [htail, State.takeByte_txIn], ?_⟩
    rw [← State.takeByte_setTxIn]
    exact sequencerStep_takeByte (s := s.setTxIn moments) hp ((State.txReady_setTxIn hsame).trans hr)
  · exact ⟨moments.tail, htail,
      sequencerStep_wait (s := s.setTxIn moments) hp ((State.txReady_setTxIn hsame).trans hr)⟩
  · exact ⟨moments, by rw [hsame, State.finishRefresh_txIn], sequencerStep_finish (s := s.setTxIn moments) hp⟩

end

/-- Settles O53: the sequencer uses a moment's readiness only, and no command uses a moment. -/
theorem receivedBytesAffectNothing : Obligations.ReceivedBytesAffectNothing := by
  intro s t moments hsame h
  obtain ⟨hb, hrst, hseq⟩ | ⟨hb, hin, rfl⟩ | ⟨hb, rest, hin, rfl⟩ | ⟨hb, cw, rest, hin, ⟨i, hdec, hexec⟩ | ⟨⟨why, hdec⟩, rfl⟩⟩ :=
    step_next_cases h
  · obtain ⟨moments', hsame', hseq'⟩ := sequencerStep_setTxIn hsame hseq
    exact ⟨moments', hsame', (step_of_busy (s := s.setTxIn moments) hb hrst).trans hseq'⟩
  · exact ⟨moments, hsame, by simp [step, State.nextAct, hb, hin]⟩
  · exact ⟨moments, hsame, by simp [step, State.nextAct, hb, hin, State.setHostIn]⟩
  · obtain ⟨u, hu, hu', htx⟩ := exec_setTxIn i (s := s.setHostIn rest) hb moments
    obtain rfl : u = t := Host.Outcome.next.inj (hu.symm.trans hexec)
    exact ⟨moments, by rw [hsame, htx, State.setHostIn_txIn], (step_of_decode_ok (s := s.setTxIn moments) hb hin hdec).trans hu'⟩
  · exact ⟨moments, hsame, step_of_decode_error (s := s.setTxIn moments) hb hin hdec⟩

end Sys2Proof.Machine
end

section
/-! PROOFS. The family of reset and hazards (`70_reset_and_hazards.md`): the outputs after reset, a step with no word at the port,
and the one step that is refused. -/

namespace Sys2Proof.Machine

/-! What a step refuses (R187, R190). -/

/-- Reset outranks everything at the inputs, and nothing else counts as one (R166). -/
theorem State.nextAct_eq_rstApplied_iff (s : State) : s.nextAct = .rstApplied ↔ s.hostIn.head? = some .rst := by
  rcases hin : s.hostIn with _ | ⟨act, rest⟩
  · cases hb : s.busy <;> simp [State.nextAct, hin, hb]
  · cases act with
    | rst => simp [State.nextAct, hin]
    | word cw => cases hb : s.busy <;> simp [State.nextAct, hin, hb]
    | pause => cases hb : s.busy <;> simp [State.nextAct, hin, hb]

/-- A word is accepted only while `BUSY = 0`, and taking it off the port keeps that (R182). -/
theorem State.busy_of_nextAct_accept {s u : State} {cw : CmdWord} (h : s.nextAct = .accept cw u) : u.busy = false := by
  unfold State.nextAct at h
  split at h
  · cases h
  · split at h
    · cases h
    · next hb => cases h; exact eq_false_of_ne_true hb
  · split at h <;> cases h
  · split at h <;> cases h

/-- While `BUSY = 0` every command has a meaning (R166, R190). -/
theorem exec_ne_refused (i : Instr) {s : State} (hb : s.busy = false) (why : Refusal) : exec i s ≠ .refused why := by
  obtain ⟨u, hu, -⟩ := exec_setTxIn i hb []
  rw [hu]
  exact nofun

/-- The sequencer refuses nothing: it takes a byte, waits, finishes or faults (R124, R125, R196). -/
theorem sequencerStep_ne_refused (s : State) (why : Refusal) : sequencerStep s ≠ .refused why := by
  unfold sequencerStep
  split
  · split <;> exact nofun
  · split <;> exact nofun

/-- Of a step's acts only an applied `rst` is refused (R187, R190). -/
theorem step_refused_iff (s : State) (why : Refusal) :
    step s = .refused why ↔ s.nextAct = .rstApplied ∧ why = .resetInRun := by
  unfold step
  cases hact : s.nextAct with
  | rstApplied => simp [eq_comm]
  | sequencer => simp [sequencerStep_ne_refused]
  | idle u => simp
  | accept cw u =>
    cases hdec : decode cw with
    | ok i => simp [hdec, exec_ne_refused i (State.busy_of_nextAct_accept hact)]
    | error reason => simp [hdec, rejectIllegal]

/-- Settles O12: the refused act is an applied `rst`, and `rst` is applied when it is first in line. -/
theorem stepRefusesOnlyReset : Obligations.StepRefusesOnlyReset :=
  ⟨fun s hrst => (step_refused_iff s _).2 ⟨s.nextAct_eq_rstApplied_iff.2 hrst, rfl⟩,
   fun s why h =>
    have ⟨hact, hwhy⟩ := (step_refused_iff s why).1 h
    ⟨s.nextAct_eq_rstApplied_iff.1 hact, hwhy⟩⟩

/-! A step with no word at the port, and the end of a run (R201, R203). -/

/-- With nothing at the port and `BUSY = 0` a step changes nothing (R201). -/
theorem step_of_hostIn_nil {s : State} (hb : s.busy = false) (hin : s.hostIn = []) : step s = .next s := by
  simp [step, State.nextAct, hb, hin]

/-- A pause takes itself off the host's list and does nothing else (R201). -/
theorem step_of_pause {s : State} {rest : List HostAct} (hb : s.busy = false) (hin : s.hostIn = .pause :: rest) :
    step s = .next (s.setHostIn rest) := by
  simp [step, State.nextAct, hb, hin]

/-- With nothing at the port and `BUSY = 0` nothing changes, for any length of time (R201). -/
theorem run_of_hostIn_nil {s : State} (hb : s.busy = false) (hin : s.hostIn = []) (n : Nat) : core.run n s = .next s := by
  induction n with
  | zero => exact run_zero s
  | succ n ih => rw [run_succ n (step_of_hostIn_nil hb hin), ih]

/-- A run is over when `BUSY = 0` and the host has no word left to present (R203). -/
theorem State.runOver_iff (s : State) :
    s.runOver = true ↔ s.busy = false ∧ ∀ cw : CmdWord, HostAct.word cw ∉ s.hostIn := by
  simp [State.runOver, List.eq_nil_iff_forall_not_mem, mem_pendingWords, and_comm]

/-- Once a run is over, a step takes a pause off the host's list, or does nothing at all (R201, R203). -/
theorem step_of_runOver {s t : State} (hover : s.runOver = true) (h : step s = .next t) :
    t = s ∨ ∃ rest, s.hostIn = .pause :: rest ∧ t = s.setHostIn rest := by
  obtain ⟨hb, hnone⟩ := s.runOver_iff.1 hover
  obtain ⟨hbusy, -⟩ | ⟨-, -, ht⟩ | ⟨-, hpause⟩ | ⟨-, cw, rest, hin, -⟩ := step_next_cases h
  · simp [hb] at hbusy
  · exact .inl ht
  · exact .inr hpause
  · exact absurd (by simp [hin]) (hnone cw)

/-- Settles O11: the steps left to a run that is over touch the host's pauses only. -/
theorem noWordNothingHappens : Obligations.NoWordNothingHappens := by
  refine ⟨fun _ hb hin => run_of_hostIn_nil hb hin, fun _ _ hb hin => step_of_pause hb hin, State.runOver_iff, ?_⟩
  intro s t hover h
  obtain rfl | ⟨rest, hin, rfl⟩ := step_of_runOver hover h
  · exact ⟨hover, rfl⟩
  · exact ⟨by simpa [State.runOver, hin] using hover, rfl⟩

/-! The outputs after reset (R186). -/

/-- Settles O14: each output is a field of the reset state, and the size ports hold the size of rotation 0. -/
theorem outputsAfterReset : Obligations.OutputsAfterReset := fun c draw =>
  ⟨rfl, rfl, rfl, rfl, rfl, rfl, rfl, rfl, (State.start c draw).oWidth_toNat, (State.start c draw).oHeight_toNat, rfl⟩

end Sys2Proof.Machine
end
